-- ==== Sys2Proof/Word.lean ====
section
/-! DEFINITION. The word types of the core. Bit 0 is the least significant bit of every value and all
values are unsigned (R7, 00_scope.md). -/

namespace Sys2Proof

/-- One byte of the wire, and the width of the CRC register (R25, R71). -/
abbrev Byte := BitVec 8

/-- The seven data bits of a byte whose top bit is 0 (R71). -/
abbrev DataBits := BitVec 7

/-- A 16-bit command word (R77), and the width of `acc` (R24). -/
abbrev Command := BitVec 16

/-- The 15 output-enable bits: bit `j` is `line_en[j + 1]`, "LE = m >> 1" (R26). -/
abbrev Lines := BitVec 15

/-- The unsigned count of ticks left, COUNTDOWN_WIDTH = 16 bits (R28). -/
abbrev Ticks := BitVec 16

end Sys2Proof
end

