-- ==== Sys2Proof/Machine/Pins.lean ====
section
/-! DEFINITION. The pins of the core (R32, R33, 10_state.md): the input record of one clock cycle, the
combinational outputs of one clock cycle, and what a pad shows. -/

namespace Sys2Proof.Machine

/-- The input record `in = (rst, rx_valid, rx_data, tick)` of R32, sampled once per cycle. `rxData` is
any value while `rxValid` is false (R52). -/
structure Input where
  rst : Bool
  rxValid : Bool
  rxData : Byte
  tick : Bool
deriving DecidableEq, Repr, Inhabited

/-- The combinational outputs of one cycle (R33, R147): `rx_take`, `wdt_arm`, `wdt_pet`,
`tick_reload`, `idle`. -/
structure Output where
  rxTake : Bool
  wdtArm : Bool
  wdtPet : Bool
  tickReload : Bool
  idle : Bool
deriving DecidableEq, Repr

/-- No pulse: every combinational output 0. -/
def Output.quiet : Output :=
  { rxTake := false, wdtArm := false, wdtPet := false, tickReload := false, idle := false }

/-- The framer's control state `fstate`, the pair (`in_packet`, `length`) of R23. -/
structure FState where
  inPacket : Bool
  length : BitVec 2
deriving DecidableEq, Repr

/-- IDLE with the canonical `length` 0 (R23). -/
def FState.idle : FState := { inPacket := false, length := 0 }

/-- COLLECTING(len) (R23). -/
def FState.collecting (len : BitVec 2) : FState := { inPacket := true, length := len }

/-- The 3-bit encoding `{in_packet, length}` of R23. -/
def FState.bits (F : FState) : BitVec 3 := BitVec.ofBool F.inPacket ++ F.length

/-- What the pad of an output-enable line shows: `line_en[k] ? 0 : high-impedance` (R33, R137). The
level of a floating line is set outside the core (U11). -/
inductive PadLevel where
  | low
  | highImpedance
deriving DecidableEq, Repr

end Sys2Proof.Machine
end

