-- ==== Sys2Proof/Config.lean ====
section
/-! DEFINITION. The implementation parameters of R6 (00_scope.md), one record, and the values the spec
leaves OPEN as opaque constants, of which nothing can be proved. -/

namespace Sys2Proof

/-- How `update` joins `crc` and `data`: CRC_COMBINE of R6 (C1, 90_conflicts.md). -/
inductive CrcCombine where
  | xor
  | or
deriving DecidableEq, Repr

/-- The parameters of R6 that the spec gives a value. -/
structure Config where
  startMarker : Byte
  crcPoly : Byte
  crcSeed : Byte
  crcCombine : CrcCombine
  dataBytes : Nat
  frameBytes : Nat
  cmdWidth : Nat
  cmdMax : Command
  cruiseFaultBit : Nat
  cruiseMask : Command
  mediaFaultBit : Nat
  mediaMask : Command
  nLines : Nat
  timeoutTicks : Ticks
  tickHz : Nat
  countdownWidth : Nat
  rxBufferDepth : Nat
deriving DecidableEq, Repr

/-- The values this hardware takes (R6). UNVERIFIED: CRC_COMBINE is XOR by the spec's resolution C1,
where the source's text writes OR (log 7). -/
def config : Config where
  startMarker := 0x80
  crcPoly := 0x89
  crcSeed := 0x00
  crcCombine := .xor
  dataBytes := 2
  frameBytes := 4
  cmdWidth := 16
  cmdMax := 0x3FFF
  cruiseFaultBit := 13
  cruiseMask := 0x01F0
  mediaFaultBit := 12
  mediaMask := 0x000F
  nLines := 15
  timeoutTicks := 1000
  tickHz := 1000
  countdownWidth := 16
  rxBufferDepth := 8

/-- The inputs the environment applies in clock cycle `n` where no stimulus is listed: "the admitted
inputs are all `(rst, rx_valid, rx_data, tick)` in every cycle" (D23, log 2). -/
opaque Config.environment : Nat → Machine.Input

/-- The pins that a statement of R81 calls "any" and an encoding of a pin operation must write down:
`rx_data` where `rx_valid` is 0 (R52, U1), and every pin but `rst` in a RESET cycle (log 16). -/
opaque Config.anyPins : Machine.Input

/-- The interval handed to `arm(timeout)`, WDT_TIMEOUT, OPEN (R6, D12). No rule of the core reads it. -/
opaque Config.wdtTimeout : Nat

/-- The interval of the reference watchdog in cycles, WDT_TIMEOUT_CYCLES, OPEN (R171, D13). -/
opaque Config.wdtTimeoutCycles : Nat

/-- CLK_HZ, OPEN (R6, D1). No rule of the core reads it. -/
opaque Config.clkHz : Nat

/-- TICK_PRESCALER, OPEN, environment only (D4). No rule of the core reads it. -/
opaque Config.tickPrescaler : Nat

/-- TICK_RELOAD, OPEN, environment only (D4). No rule of the core reads it. -/
opaque Config.tickReload : Nat

/-- What the Byte Source holds after byte `b` arrives while its buffer `q` is full: not defined by the
source, a parameter of the environment (U2, N11, log 13). -/
opaque Config.overflow : List Byte → Byte → List Byte

/-- What the Byte Source holds after byte `b` arrives in the cycle in which the oldest byte is taken from a
full buffer, of which `q` is the rest: the spec does not say whether that overflows (U2, N11, log 13). -/
opaque Config.overflowWhileTaken : List Byte → Byte → List Byte

end Sys2Proof
end

