-- ==== Sys2Proof/Machine/Crc.lean ====
section
/-! DEFINITION. The CRC Engine (40_crc.md): `crc7_update` of R100, and the CRC of a frame (R74, R101). -/

namespace Sys2Proof.Machine

/-- One of the eight iterations of R100: XOR with the polynomial if the top bit is set, then shift left
with bit 8 discarded. -/
def crcShift (t : Byte) : Byte :=
  (if t.getLsbD 7 then t ^^^ config.crcPoly else t) <<< 1

/-- `n` iterations of R100. -/
def crcShifts : Nat → Byte → Byte
  | 0, t => t
  | n + 1, t => crcShifts n (crcShift t)

/-- The first line of R100, `t = crc ^ data`, with the other reading of the operator beside it (C1). -/
def combine (how : CrcCombine) (crc data : Byte) : Byte :=
  match how with
  | .xor => crc ^^^ data
  | .or => crc ||| data

/-- `crc7_update` under a chosen reading of CRC_COMBINE. -/
def crc7UpdateWith (how : CrcCombine) (crc data : Byte) : Byte :=
  crcShifts 8 (combine how crc data)

/-- `crc7_update(crc, data)` of R100. -/
def crc7Update (crc data : Byte) : Byte :=
  crc7UpdateWith config.crcCombine crc data

/-- The byte with top bit 0 and data bits `d`: class LOW of R71. -/
def lowByte (d : DataBits) : Byte := 0#1 ++ d

/-- The byte with top bit 1 and data bits `d`: class HIGH of R71 where `d` is not 0. -/
def highByte (d : DataBits) : Byte := 1#1 ++ d

/-- `crc1 = crc7_update(0x00, 0x80)`, the value a start marker leaves in `crc` (R101, R111). -/
def markerCrc : Byte := crc7Update config.crcSeed config.startMarker

/-- `crc3` of R101: the CRC over the marker and the two data bytes. -/
def frameCrc (h l : DataBits) : Byte :=
  crc7Update (crc7Update markerCrc (lowByte h)) (lowByte l)

/-- The CRC trailer of a well-formed frame, `crc3 >> 1`, as its seven data bits (R73, R74). -/
def trailer (h l : DataBits) : DataBits := (frameCrc h l >>> 1).setWidth 7

end Sys2Proof.Machine
end

