-- ==== Sys2Proof/Syntax.lean ====
section
/-! DEFINITION. The operations of the core, one constructor per row of spec/opcode_table.json (R83,
30_encoding.md). The core executes no program (R30): what plays the part of instructions is the byte
classes of the wire (`B8`), the command classes (`C16`), the frame (`F32`) and the pin operations. -/

namespace Sys2Proof

/-- One constructor per row of spec/opcode_table.json. -/
inductive Instr where
  /-- MARKER (R111): the byte 0x80, in any framer state. -/
  | marker
  /-- IGNORE (R112): any byte `b` but 0x80, in IDLE. -/
  | ignore (b : Byte)
  /-- ABORT (R118): a HIGH byte with data bits `b`, inside a frame. -/
  | abort (b : DataBits)
  /-- HI (R113): a LOW byte in C0, command bits 13 to 7. -/
  | hi (h : DataBits)
  /-- LO (R114): a LOW byte in C1, command bits 6 to 0. -/
  | lo (l : DataBits)
  /-- CHECK (R115): a LOW byte in C2, the CRC trailer. -/
  | check (c : DataBits)
  /-- OVERRUN (R119): a LOW byte in COLLECTING(3). -/
  | overrun (b : DataBits)
  /-- CMD_CRUISE (R132): a command `v` with bit 13 set. -/
  | cmdCruise (v : Command)
  /-- CMD_MEDIA (R133): a command `v` with bit 13 clear and bit 12 set. -/
  | cmdMedia (v : Command)
  /-- CMD_NORMAL (R134): a command `v` with bits 13 and 12 clear. -/
  | cmdNormal (v : Command)
  /-- FRAME (R73, R82): the four bytes 0x80, `h`, `l`, `c`, the last three with top bit 0. -/
  | frame (h l c : DataBits)
  /-- TICK (R140). -/
  | tick
  /-- POLL (R141). -/
  | poll
  /-- BOOT (R146). -/
  | boot
  /-- RESET (R180). -/
  | reset
deriving DecidableEq, Repr

end Sys2Proof
end

