-- ==== Sys2Proof/WellFormed.lean ====
section
/-! DEFINITION. Which terms of `Instr` are operations of the hardware: the side conditions of the rows
that their constructors' types do not already say. -/

namespace Sys2Proof

/-- A command is in a class of R78 when `(v & mask) == match`. -/
def Command.inClass (v mask pattern : Command) : Bool := v &&& mask == pattern

/-- IGNORE is never the marker (R112), ABORT is never the marker (R71: HIGH has `d != 0`), and a command
row carries only commands of its class (R78). A FRAME carries any trailer: "a frame whose trailer is
wrong is not an illegal encoding" (R79). -/
def Instr.wf : Instr → Bool
  | .marker => true
  | .ignore b => b != config.startMarker
  | .abort b => b != 0
  | .hi _ => true
  | .lo _ => true
  | .check _ => true
  | .overrun _ => true
  | .cmdCruise v => Command.inClass v 0x2000 0x2000
  | .cmdMedia v => Command.inClass v 0x3000 0x1000
  | .cmdNormal v => Command.inClass v 0x3000 0x0000
  | .frame _ _ _ => true
  | .tick => true
  | .poll => true
  | .boot => true
  | .reset => true

end Sys2Proof
end

