-- ==== Sys2Proof/Decode.lean ====
section
/-! DEFINITION. Decoding (30_encoding.md): a byte by its class and the framer state (R71, R72), a command
by bits 13 and 12 (R78), a 32-bit frame by its fixed bits (R73), a clock cycle by its pins (R169); then
the encoder, written from the same tables, and the opcode table's rows. -/

namespace Sys2Proof

open Machine

/-- The three classes of byte of R71, disjoint and covering all 256 values. -/
inductive ByteClass where
  | marker
  | low
  | high
deriving DecidableEq, Repr

/-- The class of a byte (R71). -/
def byteClass (c : Byte) : ByteClass :=
  if c == config.startMarker then .marker else if c.getLsbD 7 then .high else .low

/-- The data bits `d` of a byte, bits 6:0 (R71). -/
def dataBits (c : Byte) : DataBits := c.setWidth 7

/-- What a byte does, by its class and `fstate` (R72). Total: every byte in every framer state is an
operation. Decode priority: the marker, then `in_packet`, then the top bit, then `length`. -/
def decodeByte (F : FState) (c : Byte) : Instr :=
  match byteClass c with
  | .marker => .marker
  | .high => if F.inPacket then .abort (dataBits c) else .ignore c
  | .low =>
    if F.inPacket then
      if F.length == 0 then .hi (dataBits c)
      else if F.length == 1 then .lo (dataBits c)
      else if F.length == 2 then .check (dataBits c)
      else .overrun (dataBits c)
    else .ignore c

/-- The class of a command, first match wins (R78). Total on all 65536 values. -/
def decodeCommand (v : Command) : Instr :=
  if Command.inClass v 0x2000 0x2000 then .cmdCruise v
  else if Command.inClass v 0x3000 0x1000 then .cmdMedia v
  else .cmdNormal v

/-- Why a word is no operation. -/
inductive DecodeError where
  /-- A 32-bit word whose first byte is not the start marker is no frame (R73). -/
  | noStartMarker
  /-- A 32-bit word whose byte `k` (1, 2 or 3) has its top bit set is no frame (R73). -/
  | topBitSet (k : Nat)
  /-- No format has this many bytes: a frame is exactly four (R70). -/
  | noSuchLength (bytes : Nat)
deriving DecidableEq, Repr

/-- The answer of the decoder: the operations an encoding selects, in the order they act, or why there
is none. -/
inductive Decoded where
  | operations (is : List Instr)
  | rejected (why : DecodeError)
deriving DecidableEq, Repr

/-- Four bytes as a frame (R73), byte 0 first. -/
def decodeFourBytes (b0 b1 b2 b3 : Byte) : Decoded :=
  if b0 != config.startMarker then .rejected .noStartMarker
  else if b1.getLsbD 7 then .rejected (.topBitSet 1)
  else if b2.getLsbD 7 then .rejected (.topBitSet 2)
  else if b3.getLsbD 7 then .rejected (.topBitSet 3)
  else .operations [.frame (dataBits b1) (dataBits b2) (dataBits b3)]

/-- Byte `k` of a 32-bit frame pattern: byte 0, the marker, is bits 31:24. -/
def frameByte (w : BitVec 32) (k : Nat) : Byte := w.extractLsb' (24 - 8 * k) 8

/-- A 32-bit pattern as a frame (R73). -/
def decodeFrameWord (w : BitVec 32) : Decoded :=
  decodeFourBytes (frameByte w 0) (frameByte w 1) (frameByte w 2) (frameByte w 3)

/-- A list of bytes as a frame; total on any bytes (R70, R73). -/
def decodeFrameBytes : List Byte → Decoded
  | [b0, b1, b2, b3] => decodeFourBytes b0 b1 b2 b3
  | bs => .rejected (.noSuchLength bs.length)

/-- The operations the pins select in a clock cycle, in the order they act (R169, R147): `rst` beats
everything, BOOT beats RUN; in RUN Tick, then Poll, then Byte. -/
def decodeCycle (booted : Bool) (F : FState) (pins : Input) : List Instr :=
  if pins.rst then [.reset]
  else if booted then
    (if pins.tick then [.tick] else []) ++ [.poll] ++
      (if pins.rxValid then [decodeByte F pins.rxData] else [])
  else [.boot]

/-- The forms in which an operation reaches the core (R70); the pin operations have no bit pattern (R83)
and "the encoding of a statement is its input record" (R81). -/
inductive Encoding where
  | b8 (c : Byte)
  | c16 (v : Command)
  | f32 (w : BitVec 32)
  | pins (p : Input)
deriving DecidableEq, Repr

/-- The whole decoder. -/
def decode (booted : Bool) (F : FState) : Encoding → Decoded
  | .b8 c => .operations [decodeByte F c]
  | .c16 v => .operations [decodeCommand v]
  | .f32 w => decodeFrameWord w
  | .pins p => .operations (decodeCycle booted F p)

/-- The input record of a cycle that offers nothing: `NOP` of R81. Its `rx_data` is "any", so a free value
(U1, log 16). -/
def quietPins : Input := { rst := false, rxValid := false, rxData := Config.anyPins.rxData, tick := false }

/-- The 32-bit pattern `10000000 0hhhhhhh 0lllllll 0ccccccc` of R73. -/
def frameWord (h l c : DataBits) : BitVec 32 :=
  config.startMarker ++ lowByte h ++ lowByte l ++ lowByte c

/-- The bytes of a frame in the order they are sent (R55, R73). -/
def frameBytes (h l c : DataBits) : List Byte :=
  [config.startMarker, lowByte h, lowByte l, lowByte c]

/-- The encoder, from the tables of R71, R73, R77 and R81. The pins that R81 calls "any" are free values
(log 16). -/
def encode : Instr → Encoding
  | .marker => .b8 config.startMarker
  | .ignore b => .b8 b
  | .abort b => .b8 (highByte b)
  | .hi h => .b8 (lowByte h)
  | .lo l => .b8 (lowByte l)
  | .check c => .b8 (lowByte c)
  | .overrun b => .b8 (lowByte b)
  | .cmdCruise v => .c16 v
  | .cmdMedia v => .c16 v
  | .cmdNormal v => .c16 v
  | .frame h l c => .f32 (frameWord h l c)
  | .tick => .pins { quietPins with tick := true }
  | .poll => .pins quietPins
  | .boot => .pins quietPins
  | .reset => .pins { Config.anyPins with rst := true }

/-- The `when` column of the opcode table: in which state of the supervisor and of the framer a row is
selected. -/
def Instr.selectedIn (booted : Bool) (F : FState) : Instr → Bool
  | .marker => true
  | .ignore _ => !F.inPacket
  | .abort _ => F.inPacket
  | .hi _ => F.inPacket && F.length == 0
  | .lo _ => F.inPacket && F.length == 1
  | .check _ => F.inPacket && F.length == 2
  | .overrun _ => F.inPacket && F.length == 3
  | .cmdCruise _ => true
  | .cmdMedia _ => true
  | .cmdNormal _ => true
  | .frame _ _ _ => true
  | .tick => booted
  | .poll => booted
  | .boot => !booted
  | .reset => true

/-- Whether the operation has a bit pattern in the opcode table; the four pin operations have none. -/
def Instr.hasPattern : Instr → Bool
  | .tick => false
  | .poll => false
  | .boot => false
  | .reset => false
  | .marker => true
  | .ignore _ => true
  | .abort _ => true
  | .hi _ => true
  | .lo _ => true
  | .check _ => true
  | .overrun _ => true
  | .cmdCruise _ => true
  | .cmdMedia _ => true
  | .cmdNormal _ => true
  | .frame _ _ _ => true

/-- A row's width in bits, its `match` and its `mask` in spec/opcode_table.json. -/
structure TableRow where
  nbits : Nat
  pattern : Nat
  mask : Nat
deriving DecidableEq, Repr

/-- The row of an operation. -/
def Instr.row : Instr → TableRow
  | .marker => { nbits := 8, pattern := 0x80, mask := 0xFF }
  | .ignore _ => { nbits := 8, pattern := 0x00, mask := 0x00 }
  | .abort _ => { nbits := 8, pattern := 0x80, mask := 0x80 }
  | .hi _ => { nbits := 8, pattern := 0x00, mask := 0x80 }
  | .lo _ => { nbits := 8, pattern := 0x00, mask := 0x80 }
  | .check _ => { nbits := 8, pattern := 0x00, mask := 0x80 }
  | .overrun _ => { nbits := 8, pattern := 0x00, mask := 0x80 }
  | .cmdCruise _ => { nbits := 16, pattern := 0x2000, mask := 0x2000 }
  | .cmdMedia _ => { nbits := 16, pattern := 0x1000, mask := 0x3000 }
  | .cmdNormal _ => { nbits := 16, pattern := 0x0000, mask := 0x3000 }
  | .frame _ _ _ => { nbits := 32, pattern := 0x80000000, mask := 0xFF808080 }
  | .tick => { nbits := 0, pattern := 0, mask := 0 }
  | .poll => { nbits := 0, pattern := 0, mask := 0 }
  | .boot => { nbits := 0, pattern := 0, mask := 0 }
  | .reset => { nbits := 0, pattern := 0, mask := 0 }

/-- The bits of an encoding as a number, numbered as the opcode table numbers them. -/
def Encoding.toNat : Encoding → Nat
  | .b8 c => c.toNat
  | .c16 v => v.toNat
  | .f32 w => w.toNat
  | .pins _ => 0

/-- An encoding fits a row when `(word & mask) == match`. -/
def TableRow.fits (r : TableRow) (e : Encoding) : Bool := e.toNat &&& r.mask == r.pattern

/-- The sender's encoding of a command, `encode(V)` of R75: bits 13 to 7, bits 6 to 0, and the trailer
they have. Bits 15 and 14 cannot be carried (R79). -/
def encodeCommand (v : Command) : Instr :=
  .frame (v.extractLsb' 7 7) (v.extractLsb' 0 7) (trailer (v.extractLsb' 7 7) (v.extractLsb' 0 7))

/-- The framer state in which the host's interface reads a `B8` word. DESIGN CHOICE: C0, the state in
which a LOW byte is the HI row (log 6). -/
def tablePosition : FState := FState.collecting 0

/-- The one operation of an answer that has exactly one. -/
def Decoded.single : Decoded → Option Instr
  | .operations [i] => some i
  | .operations _ => none
  | .rejected _ => none

/-- What the decoder reads from a word of `nbits` bits, numbered as spec/opcode_table.json numbers them:
8 bits a byte read in C0, 16 bits a command, 32 bits a frame with the marker in bits 31:24, no bits a RUN
cycle that carries nothing, which is POLL (log 6). -/
def decodeTableWord (nbits w : Nat) : Option Instr :=
  match nbits with
  | 0 => (decode true tablePosition (.pins quietPins)).single
  | 8 => (decode true tablePosition (.b8 (BitVec.ofNat 8 w))).single
  | 16 => (decode true tablePosition (.c16 (BitVec.ofNat 16 w))).single
  | 32 => (decode true tablePosition (.f32 (BitVec.ofNat 32 w))).single
  | _ => none

end Sys2Proof
end

