-- ==== Sys2Proof/Machine/State.lean ====
section
/-! DEFINITION. The state of the machine: the eight registers of R20 (10_state.md), and what a step of a
machine without arguments and results needs beside them: the input records still to come, the
combinational outputs of the cycle just run, and a count of cycles. Plain data throughout. -/

namespace Sys2Proof.Machine

/-- The whole state `S` of the core, 60 bits (R20). -/
structure Registers where
  /-- 1 while a frame is in progress (R21). -/
  inPacket : Bool
  /-- Bytes consumed after the marker in the frame in progress (R22). -/
  length : BitVec 2
  /-- The command being assembled (R24). -/
  acc : Command
  /-- The running CRC (R25). -/
  crc : Byte
  /-- The Liveness Countdown (R28). -/
  countdown : Ticks
  /-- The output enables; bit `j` is `line_en[j + 1]` (R26). -/
  lineEn : Lines
  /-- The level of the dedicated line (R27). -/
  aux : Bool
  /-- 0 is BOOT, 1 is RUN (R29). -/
  booted : Bool
deriving DecidableEq, Repr

/-- `S_reset` of R36. -/
def Registers.reset : Registers where
  inPacket := false
  length := 0
  acc := 0x0000
  crc := 0x00
  countdown := config.timeoutTicks
  lineEn := 0
  aux := false
  booted := false

/-- The framer's control state (R23). -/
def Registers.fstate (S : Registers) : FState := { inPacket := S.inPacket, length := S.length }

/-- One item of the stimulus: the input record of one clock cycle, or the pseudo-statement FRAME, which
expands to four of them (R81, R82). -/
inductive Stimulus where
  | cycle (pins : Input)
  | frame (h l c : DataBits)
deriving DecidableEq, Repr

/-- The machine: the core's registers, and the model's own fields `out` (log 3), `stimulus` (log 1) and
`cycle` (log 4). -/
structure State extends Registers where
  /-- The combinational outputs of the cycle just run (R33). -/
  out : Output
  /-- What the environment applies next, first item first. -/
  stimulus : List Stimulus
  /-- How many clock cycles have been run; it picks the free input record of a cycle for which no
  stimulus is listed. -/
  cycle : Nat
deriving DecidableEq, Repr

/-- The machine right after reset (R36, R180): every register as the spec gives it, every output 0; no
stimulus is listed and no cycle counted (log 1, log 4). -/
def State.reset : State where
  toRegisters := Registers.reset
  out := Output.quiet
  stimulus := []
  cycle := 0

/-- Why a step could fault: never. "The core raises no exception and surfaces no error" (R160), so no
constructor: that no step faults is part of the type. Safe. -/
inductive Fault
deriving DecidableEq, Repr

/-- Why a step could be refused. -/
inductive Refusal where
  /-- An operation of the opcode table without a meaning in `exec`, by its mnemonic. Raised by a
  refused arm of `exec` only, and there is none. Safe. -/
  | notModelled (mnemonic : String)
deriving DecidableEq, Repr

/-- What a step or an operation answers. -/
abbrev Result := Host.Outcome State Fault Refusal

end Sys2Proof.Machine
end

