-- ==== Sys2Proof/Machine/Operands.lean ====
section
/-! DEFINITION. Operand assembly (R76, 30_encoding.md): how the data bits of a byte enter the command,
how the trailer is compared, and how a masked command is split over the output lines (R131). No sign
extension and no scaling but the shift by 7. -/

namespace Sys2Proof.Machine

/-- The high part of a command, `zext_16(h) << 7` (R76, R113). -/
def highPart (h : DataBits) : Command := (h.setWidth 16) <<< 7

/-- The low part of a command, `zext_16(l & 0x7F)` (R76, R114). -/
def lowPart (l : DataBits) : Command := l.setWidth 16

/-- The command of the two data bytes, `(h << 7) | l` (R76). -/
def assemble (h l : DataBits) : Command := highPart h ||| lowPart l

/-- The line bits of a masked command, `LE = m >> 1` as 15 bits: `le[k] = m[k]` for `k` = 15 to 1 (R131). -/
def lineBits (m : Command) : Lines := m.extractLsb' 1 15

/-- The dedicated line's bit of a masked command, `m[0]` (R131). -/
def auxBit (m : Command) : Bool := m.getLsbD 0

end Sys2Proof.Machine
end

