-- ==== Sys2Proof/Machine/Flags.lean ====
section
/-! DEFINITION. The conditions of the core (R31, 10_state.md). There is no condition-code register: each
condition is a wire computed from registers and the byte. -/

namespace Sys2Proof.Machine

/-- `forced_off`: the countdown is exactly zero, on all 16 bits (R31, R141, R151). -/
def forcedOff (countdown : Ticks) : Bool := countdown == 0

/-- `match` of CHECK: `(crc >> 1) == c`, a comparison of 8-bit values (R115); it is the condition
`accept` (R31, R116). -/
def trailerMatches (crc : Byte) (c : DataBits) : Bool := crc >>> 1 == lowByte c

/-- Bit 13 of a command, first-priority override (R77, R130). -/
def cruiseFault (v : Command) : Bool := v.getLsbD config.cruiseFaultBit

/-- Bit 12 of a command, second-priority override (R77, R130). -/
def mediaFault (v : Command) : Bool := v.getLsbD config.mediaFaultBit

end Sys2Proof.Machine
end

