-- ==== Sys2Proof/Machine/Ops.lean ====
section
/-! DEFINITION. The named operations over the registers and pins, which the meanings share. Each says
which registers it writes; all writes of one cycle land at the edge that ends it (R61). -/

namespace Sys2Proof.Machine

/-- `RxRead()` (R51) together with PET (R144): the byte is taken, and every byte taken pets the watchdog. -/
def State.takeByte (s : State) : State :=
  { s with out := { s.out with rxTake := true, wdtPet := true } }

/-- Open a frame: C0, an empty command, the CRC of the marker (R111). -/
def State.openFrame (s : State) : State :=
  { s with inPacket := true, length := 0, acc := 0x0000, crc := markerCrc }

/-- Store the command assembled so far, fold the byte into the CRC, and count it (R113, R114). -/
def State.collect (s : State) (acc : Command) (byte : Byte) (len : BitVec 2) : State :=
  { s with acc := acc, crc := crc7Update s.crc byte, length := len }

/-- The transition to IDLE: `length` to 0, `acc` and `crc` kept (R22, R24, R25). -/
def State.closeFrame (s : State) : State :=
  { s with inPacket := false, length := 0 }

/-- `OutWrite(le, a)` (R53): all 15 enables and the dedicated line at once. -/
def State.outWrite (s : State) (le : Lines) (a : Bool) : State :=
  { s with lineEn := le, aux := a }

/-- Drive the outputs with a masked command, split as R131 says. -/
def State.drive (s : State) (m : Command) : State := s.outWrite (lineBits m) (auxBit m)

/-- One tick: the countdown less one, saturating at 0, and the pulse to the Tick Timer (R140). -/
def State.countTick (s : State) : State :=
  { s with
    countdown := if s.countdown != 0 then s.countdown - 1 else 0
    out := { s.out with tickReload := true } }

/-- RELOAD: the second of the countdown's two writers (R142). -/
def State.reload (s : State) : State := { s with countdown := config.timeoutTicks }

/-- The arm cycle: the pulse `wdt_arm`, and nothing but `booted` changes (R146). -/
def State.armWatchdog (s : State) : State :=
  { s with booted := true, out := { s.out with wdtArm := true } }

/-- Taking the core's one trap, the restart (R166, R180): nothing is saved, every register goes to
`S_reset` and every combinational output to 0. There is no vector and no return (R167). -/
def State.enterReset (s : State) : State :=
  { s with toRegisters := Registers.reset, out := Output.quiet }

/-- Continue with `f` if an operation answers a next state. -/
def andThen (r : Result) (f : State → Result) : Result :=
  match r with
  | .next s => f s
  | .fault e => .fault e
  | .refused e => .refused e

/-- `line_en[k]`, `k` from 1 to 15: the output enable of line `k` (R26). -/
def State.lineEnabled (s : State) (k : Nat) : Bool := decide (1 ≤ k) && s.lineEn.getLsbD (k - 1)

/-- The pin `line_out[15:1]`, constant 0 (R33, R137). -/
def State.lineOut (_ : State) : Lines := 0

/-- The pin `aux_out` (R33). -/
def State.auxOut (s : State) : Bool := s.aux

/-- The pad of line `k`: `line_en[k] ? 0 : high-impedance` (R33, R137). -/
def State.pad (s : State) (k : Nat) : PadLevel :=
  if s.lineEnabled k then .low else .highImpedance

end Sys2Proof.Machine
end

