-- ==== Sys2Proof/Machine/Frame.lean ====
section
/-! DEFINITION. The stimulus notation (R81, R82, 30_encoding.md): the primitive statements as input
records, the pseudo-statements as lists of items, and the meaning of FRAME, which is its expansion. A
field the notation calls "any" is an argument. -/

namespace Sys2Proof.Machine

/-- `RESET`: `rst` 1, every other pin any value. -/
def Input.reset (any : Input) : Input := { any with rst := true }

/-- `NOP`: nothing offered; `rx_data` any value. -/
def Input.nop (anyData : Byte) : Input :=
  { rst := false, rxValid := false, rxData := anyData, tick := false }

/-- `BYTE xx`. -/
def Input.byte (xx : Byte) : Input := { rst := false, rxValid := true, rxData := xx, tick := false }

/-- `TICK`: `rx_data` any value. -/
def Input.tickOnly (anyData : Byte) : Input :=
  { rst := false, rxValid := false, rxData := anyData, tick := true }

/-- `BYTE+TICK xx`. -/
def Input.byteTick (xx : Byte) : Input := { rst := false, rxValid := true, rxData := xx, tick := true }

/-- `BYTES a b c ...`. -/
def Stimulus.bytes (bs : List Byte) : List Stimulus := bs.map fun b => .cycle (.byte b)

/-- The expansion of FRAME (R82): `BYTE 80, BYTE hh, BYTE ll, BYTE cc`. -/
def Stimulus.frameBytes (h l c : DataBits) : List Stimulus :=
  Stimulus.bytes (Sys2Proof.frameBytes h l c)

/-- `BOOT`: `RESET`, `NOP`. -/
def Stimulus.boot (any : Input) (anyData : Byte) : List Stimulus :=
  [.cycle (.reset any), .cycle (.nop anyData)]

/-- `FRAME V` as one item of the stimulus (R75, R82). -/
def Stimulus.ofCommand (v : Command) : Stimulus :=
  .frame (v.extractLsb' 7 7) (v.extractLsb' 0 7) (trailer (v.extractLsb' 7 7) (v.extractLsb' 0 7))

/-- `BADFRAME V, xx`: as `FRAME V` with the fourth byte replaced. -/
def Stimulus.badFrame (v : Command) (xx : Byte) : List Stimulus :=
  Stimulus.bytes [config.startMarker, lowByte (v.extractLsb' 7 7), lowByte (v.extractLsb' 0 7), xx]

/-- `TICKS n`. -/
def Stimulus.ticks (n : Nat) (anyData : Byte) : List Stimulus :=
  List.replicate n (.cycle (.tickOnly anyData))

/-- `WAIT n`. -/
def Stimulus.wait (n : Nat) (anyData : Byte) : List Stimulus :=
  List.replicate n (.cycle (.nop anyData))

/-- FRAME (R75, R82): the pseudo-statement expands to four `BYTE` statements, which MARKER, HI, LO and
CHECK decode. It takes no clock cycle of its own: "between two statements there is no hidden cycle". -/
def execFrame (h l c : DataBits) (s : State) : Result :=
  .next { s with stimulus := Stimulus.frameBytes h l c ++ s.stimulus }

end Sys2Proof.Machine
end

