-- ==== Sys2Proof/Machine/Policy.lean ====
section
/-! DEFINITION. The Output Policy (42_output_policy.md): the three command classes, and the dispatch of
an accepted command to the meaning of its class. -/

namespace Sys2Proof.Machine

/-- CMD_CRUISE (R132): only bits 8 to 4 survive. -/
def execCmdCruise (v : Command) (s : State) : Result :=
  .next (s.drive (v &&& config.cruiseMask))

/-- CMD_MEDIA (R133): only bits 3 to 0 survive. -/
def execCmdMedia (v : Command) (s : State) : Result :=
  .next (s.drive (v &&& config.mediaMask))

/-- CMD_NORMAL (R134): the command unmodified. -/
def execCmdNormal (v : Command) (s : State) : Result :=
  .next (s.drive v)

/-- Invoke the Output Policy with a command (R135): the class is chosen by bits 13 and 12, cruise fault
first (R130, R169). -/
def applyCommand (v : Command) (s : State) : Result :=
  if cruiseFault v then execCmdCruise v s
  else if mediaFault v then execCmdMedia v s
  else execCmdNormal v s

end Sys2Proof.Machine
end

