-- ==== Sys2Proof/Machine/Framer.lean ====
section
/-! DEFINITION. The byte operations of the Packet Assembler (41_framer.md). Each is run by `step` only in
the framer state its row names; its meaning is its effect in any state (log 10). Every byte consumed pets
the watchdog (R144). -/

namespace Sys2Proof.Machine

/-- MARKER (R111). -/
def execMarker (s : State) : Result := .next s.takeByte.openFrame

/-- IGNORE (R112): no register changes. -/
def execIgnore (_ : Byte) (s : State) : Result := .next s.takeByte

/-- HI (R113): the store replaces `acc`; it does not OR into it. -/
def execHi (h : DataBits) (s : State) : Result :=
  .next (s.takeByte.collect (highPart h) (lowByte h) 1)

/-- LO (R114): OR in the low part. -/
def execLo (l : DataBits) (s : State) : Result :=
  .next (s.takeByte.collect (s.acc ||| lowPart l) (lowByte l) 2)

/-- The ACCEPT action (R145): `OutWrite(apply(V))`, then `countdown <- TIMEOUT_TICKS`. -/
def acceptCommand (v : Command) (s : State) : Result :=
  andThen (applyCommand v s) fun t => .next t.reload

/-- CHECK (R115): to IDLE in any case; the ACCEPT action with `V = acc` if the trailer matches (R116),
nothing else if it does not (R117). -/
def execCheck (c : DataBits) (s : State) : Result :=
  if trailerMatches s.crc c then acceptCommand s.acc s.takeByte.closeFrame
  else .next s.takeByte.closeFrame

/-- ABORT (R118): the frame in progress is discarded. -/
def execAbort (_ : DataBits) (s : State) : Result := .next s.takeByte.closeFrame

/-- OVERRUN (R119): as ABORT; the trailer is not compared. -/
def execOverrun (_ : DataBits) (s : State) : Result := .next s.takeByte.closeFrame

end Sys2Proof.Machine
end

