-- ==== Sys2Proof/Machine/Supervisor.lean ====
section
/-! DEFINITION. The pin operations: the Liveness Supervisor (43_supervisor.md) and RESET
(70_reset_and_hazards.md). -/

namespace Sys2Proof.Machine

/-- TICK (R140). -/
def execTick (s : State) : Result := .next s.countTick

/-- POLL (R141): if the countdown is exactly zero, invoke the Output Policy with command 0. On the level,
not the edge, and nothing is latched. -/
def execPoll (s : State) : Result :=
  if forcedOff s.countdown then applyCommand 0x0000 s else .next s

/-- BOOT (R146). -/
def execBoot (s : State) : Result := .next s.armWatchdog

/-- RESET (R180): the restart of R166. -/
def execReset (s : State) : Result := .next s.enterReset

end Sys2Proof.Machine
end

