-- ==== Sys2Proof/Machine/Dispatch.lean ====
section
/-! DEFINITION. The dispatch: one arm per constructor of `Instr`, each one direct call of a meaning. -/

namespace Sys2Proof.Machine

def exec (i : Instr) (s : State) : Host.Outcome State Fault Refusal :=
  match i with
  | .marker => Sys2Proof.Machine.execMarker s
  | .ignore b => Sys2Proof.Machine.execIgnore b s
  | .abort b => Sys2Proof.Machine.execAbort b s
  | .hi h => Sys2Proof.Machine.execHi h s
  | .lo l => Sys2Proof.Machine.execLo l s
  | .check c => Sys2Proof.Machine.execCheck c s
  | .overrun b => Sys2Proof.Machine.execOverrun b s
  | .cmdCruise v => Sys2Proof.Machine.execCmdCruise v s
  | .cmdMedia v => Sys2Proof.Machine.execCmdMedia v s
  | .cmdNormal v => Sys2Proof.Machine.execCmdNormal v s
  | .frame h l c => Sys2Proof.Machine.execFrame h l c s
  | .tick => Sys2Proof.Machine.execTick s
  | .poll => Sys2Proof.Machine.execPoll s
  | .boot => Sys2Proof.Machine.execBoot s
  | .reset => Sys2Proof.Machine.execReset s

end Sys2Proof.Machine
end

