-- ==== Sys2Proof/Machine/Cycle.lean ====
section
/-! DEFINITION. One clock cycle (R147, 43_supervisor.md): the operations that the pins select act in
order, each on the result of the one before (R61), and where the input record of a cycle comes from. -/

namespace Sys2Proof.Machine

/-- Operations in order. -/
def runOps : List Instr → State → Result
  | [], s => .next s
  | i :: is, s => andThen (exec i s) (runOps is)

/-- The start of a cycle: no pulse yet; `idle` is 1 in a RUN cycle with `rx_valid` 0 (R150). -/
def State.beginCycle (s : State) (pins : Input) : State :=
  { s with
    out := { Output.quiet with idle := !pins.rst && s.booted && !pins.rxValid }
    cycle := s.cycle + 1 }

/-- One clock cycle with the given input record. -/
def runCycle (pins : Input) (s : State) : Result :=
  runOps (decodeCycle s.booted s.fstate pins) (s.beginCycle pins)

/-- The item the machine runs next: the first of the stimulus, or a cycle with a free input record where
none is listed (log 2). -/
def State.fetch (s : State) : Stimulus :=
  match s.stimulus with
  | [] => .cycle (Config.environment s.cycle)
  | x :: _ => x

/-- The state once that item is taken from the stimulus. -/
def State.popStimulus (s : State) : State := { s with stimulus := s.stimulus.tail }

/-- Offer a cycle's input record before everything else that is listed. -/
def State.offer (s : State) (pins : Input) : State :=
  { s with stimulus := .cycle pins :: s.stimulus }

/-- Offer a list of items before everything else that is listed. -/
def State.offerAll (s : State) (items : List Stimulus) : State :=
  { s with stimulus := items ++ s.stimulus }

/-- `s` with a byte offered in its next cycle, in RUN with the framer in C0: the state in which
`decodeTableWord` reads a `B8` word (log 6). -/
def State.withByte (s : State) (b : Byte) : State :=
  { s with booted := true, inPacket := true, length := 0 }.offer (.byte b)

/-- `s` about to accept the command `v`: RUN, C2, `acc` holding `v` and the matching trailer offered, so
that the next cycle's CHECK accepts and runs the command's class (log 6). -/
def State.withCommand (s : State) (v : Command) : State :=
  { s with booted := true, inPacket := true, length := 2, acc := v }.offer (.byte (s.crc >>> 1))

/-- `s` in RUN with a 32-bit pattern offered: as the FRAME it decodes to, or as its four bytes where it is
no frame (log 6). -/
def State.withFrameWord (s : State) (w : BitVec 32) : State :=
  let run : State := { s with booted := true }
  match decodeFrameWord w with
  | .operations [.frame h l c] => run.offerAll [.frame h l c]
  | _ => run.offerAll (Stimulus.bytes [frameByte w 0, frameByte w 1, frameByte w 2, frameByte w 3])

end Sys2Proof.Machine
end

