-- ==== Sys2Proof/Machine/Step.lean ====
section
/-! DEFINITION. The step. A cycle item is one clock cycle (R147); a FRAME item is its expansion, which
takes no clock cycle (R82, log 5). -/

namespace Sys2Proof.Machine

/-- One step of the machine. -/
def step (s : State) : Host.Outcome State Fault Refusal :=
  match s.fetch with
  | .cycle pins => runCycle pins s.popStimulus
  | .frame h l c => exec (.frame h l c) s.popStimulus

/-- `s` with the operation that `decodeTableWord nbits w` reads placed where the next step runs it (log 6). -/
def State.withFetchWord (s : State) (nbits w : Nat) : State :=
  match nbits with
  | 0 => { s with booted := true }.offer quietPins
  | 8 => s.withByte (BitVec.ofNat 8 w)
  | 16 => s.withCommand (BitVec.ofNat 16 w)
  | 32 => s.withFrameWord (BitVec.ofNat 32 w)
  | _ => s

end Sys2Proof.Machine
end

