-- ==== Sys2Proof/Machine/Events.lean ====
section
/-! DEFINITION. The event level of R9 (00_scope.md; D5, D23): the source's own, clock-free semantics, in
which the atomic events `Byte(c)`, `Tick` and `Poll` interleave in any order. A claim that must hold of
the source's firmware is stated for every list of events; `step` shows one order per cycle (R61). -/

namespace Sys2Proof.Machine

/-- The three atomic events of R9. -/
inductive Event where
  | byte (c : Byte)
  | tick
  | poll
deriving DecidableEq, Repr

/-- The operation an event is, in the framer state it meets (R72). -/
def Event.instr (F : FState) : Event → Instr
  | .byte c => decodeByte F c
  | .tick => .tick
  | .poll => .poll

/-- One event. -/
def runEvent (e : Event) (s : State) : Result := exec (e.instr s.fstate) s

/-- Events in order. -/
def runEvents : List Event → State → Result
  | [], s => .next s
  | e :: es, s => andThen (runEvent e s) (runEvents es)

/-- The events of a RUN cycle in the order R147 fixes. -/
def Input.events (pins : Input) : List Event :=
  (if pins.tick then [.tick] else []) ++ [.poll] ++
    (if pins.rxValid then [.byte pins.rxData] else [])

end Sys2Proof.Machine
end

