-- ==== Sys2Proof/Machine/Reference.lean ====
section
/-! DEFINITION. The spec's own whole functions, written out from their pseudocode and independent of the
meanings: `framer_step` of R110 (41_framer.md), `override` and `apply` of R130, R131
(42_output_policy.md), `step` of R147 (43_supervisor.md), and the labels of R161 (60_exceptions.md).
Statements compare the machine with these; the machine calls none of them. -/

namespace Sys2Proof.Machine

/-- The labels of R161. They are names for stating properties, computed and never stored (R160, D15). -/
inductive Label where
  | start
  | restart
  | ignore
  | hi
  | lo
  | accept
  | crcFail
  | abort
  | overrun
  | timeout
deriving DecidableEq, Repr

/-- The framer state `F = (in_packet, length, acc, crc)` (R110). -/
structure Framer where
  inPacket : Bool
  length : BitVec 2
  acc : Command
  crc : Byte
deriving DecidableEq, Repr

/-- The framer's part of the registers. -/
def Registers.framer (S : Registers) : Framer :=
  { inPacket := S.inPacket, length := S.length, acc := S.acc, crc := S.crc }

/-- What `framer_step` answers: the next `F`, `accept`, and the label. -/
structure FramerResult where
  framer : Framer
  accept : Bool
  label : Label
deriving DecidableEq, Repr

/-- `framer_step(F, c)` of R110; the first condition that holds selects the arm. -/
def framerStep (F : Framer) (c : Byte) : FramerResult :=
  if c == 0x80 then
    { framer := { inPacket := true, length := 0, acc := 0x0000, crc := crc7Update 0x00 0x80 }
      accept := false
      label := if F.inPacket then .restart else .start }
  else if F.inPacket == false then
    { framer := F, accept := false, label := .ignore }
  else if c.getLsbD 7 then
    { framer := { F with inPacket := false, length := 0 }, accept := false, label := .abort }
  else if F.length == 0 then
    { framer := { F with length := 1, acc := (c.setWidth 16) <<< 7, crc := crc7Update F.crc c }
      accept := false
      label := .hi }
  else if F.length == 1 then
    { framer :=
        { F with length := 2, acc := F.acc ||| (c &&& 0x7F).setWidth 16, crc := crc7Update F.crc c }
      accept := false
      label := .lo }
  else if F.length == 2 then
    if F.crc >>> 1 == c then
      { framer := { F with inPacket := false, length := 0 }, accept := true, label := .accept }
    else
      { framer := { F with inPacket := false, length := 0 }, accept := false, label := .crcFail }
  else
    { framer := { F with inPacket := false, length := 0 }, accept := false, label := .overrun }

/-- `override(v)` of R130. -/
def override (v : Command) : Command :=
  if v.getLsbD 13 then v &&& 0x01F0
  else if v.getLsbD 12 then v &&& 0x000F
  else v

/-- `apply(v) -> (le, a)` of R131. -/
def apply (v : Command) : Lines × Bool :=
  ((override v >>> 1).setWidth 15, (override v).getLsbD 0)

/-- `cd1`, the countdown as the later operations of a RUN cycle see it (R140, R147). -/
def tickedCountdown (S : Registers) (inp : Input) : Ticks :=
  if inp.tick then (if S.countdown != 0 then S.countdown - 1 else 0) else S.countdown

/-- `step(S, in) -> (S', out)` of R147, one clock cycle of the core. -/
def coreStep (S : Registers) (inp : Input) : Registers × Output :=
  if inp.rst then (Registers.reset, Output.quiet)
  else if S.booted == false then
    ({ S with booted := true }, { Output.quiet with wdtArm := true })
  else
    let cd1 := tickedCountdown S inp
    let le1 : Lines := if cd1 == 0 then 0 else S.lineEn
    let a1 : Bool := if cd1 == 0 then false else S.aux
    let F := S.framer
    let F2 : Framer := if inp.rxValid then (framerStep F inp.rxData).framer else F
    let accept : Bool := if inp.rxValid then (framerStep F inp.rxData).accept else false
    let le2 : Lines := if accept then (apply F.acc).1 else le1
    let a2 : Bool := if accept then (apply F.acc).2 else a1
    let cd2 : Ticks := if accept then config.timeoutTicks else cd1
    ({ inPacket := F2.inPacket, length := F2.length, acc := F2.acc, crc := F2.crc,
       countdown := cd2, lineEn := le2, aux := a2, booted := true },
     { rxTake := inp.rxValid, wdtArm := false, wdtPet := inp.rxValid,
       tickReload := inp.tick, idle := !inp.rxValid })

/-- The labels a cycle carries (R161, R169): the byte's one label, and TIMEOUT beside it if `cd1` is 0. -/
def cycleLabels (S : Registers) (inp : Input) : List Label :=
  if inp.rst || !S.booted then []
  else
    (if tickedCountdown S inp == 0 then [.timeout] else []) ++
      (if inp.rxValid then [(framerStep S.framer inp.rxData).label] else [])

/-- `accept` of a cycle (R31): a RUN cycle whose byte is a matching trailer in C2. -/
def accepts (S : Registers) (inp : Input) : Bool :=
  !inp.rst && S.booted && inp.rxValid && (framerStep S.framer inp.rxData).accept

/-- The Poll of a cycle finds the countdown at zero (R141): a RUN cycle with `cd1 == 0`. -/
def timesOut (S : Registers) (inp : Input) : Bool :=
  !inp.rst && S.booted && tickedCountdown S inp == 0

end Sys2Proof.Machine
end

