-- ==== Sys2Proof/Machine/System.lean ====
section
/-! DEFINITION. The core in its environment (R35, 10_state.md; R170, R171, R173, 60_exceptions.md): the
Byte Source's buffer as a queue, the reference watchdog of R171, and the reset line. The Tick Timer and
the senders are outside: what they do in a cycle is an argument. None of this is state of the core. -/

namespace Sys2Proof.Machine

/-- The reference watchdog of R171: `wdt_run`, `wdt_cnt`. -/
structure Watchdog where
  run : Bool
  cnt : Nat
deriving DecidableEq, Repr

/-- `wdt_run` is 0 at power-on (R171). The rule gives no power-on value for `wdt_cnt`, so it is an argument:
`arm` clears it before anything reads it. -/
def Watchdog.powerOn (cnt : Nat) : Watchdog := { run := false, cnt := cnt }

/-- The watchdog's next state and whether `rst` is 1 in the next cycle, from the core's outputs of this
cycle (R171). Its interval WDT_TIMEOUT_CYCLES is OPEN, so it is an argument; this hardware's is
`Config.wdtTimeoutCycles` (log 9). -/
def Watchdog.next (interval : Nat) (w : Watchdog) (out : Output) : Watchdog × Bool :=
  if out.wdtArm then ({ run := true, cnt := 0 }, false)
  else if out.wdtPet then ({ w with cnt := 0 }, false)
  else if w.run then
    if w.cnt + 1 == interval then ({ run := false, cnt := 0 }, true)
    else ({ w with cnt := w.cnt + 1 }, false)
  else (w, false)

/-- What the outside world does in one cycle: the reset generator, the Tick Timer, a byte arriving at the
Byte Source, and the value on `rx_data` if the Byte Source is empty (U1). -/
structure Outside where
  rst : Bool
  tick : Bool
  arrival : Option Byte
  idleData : Byte
deriving DecidableEq, Repr

/-- The core and the environment's state. -/
structure System where
  core : State
  /-- The unread bytes, oldest first (R35 (a)). -/
  source : List Byte
  watchdog : Watchdog
  /-- The watchdog has expired: `rst` is 1 in this cycle. -/
  restart : Bool
deriving DecidableEq, Repr

/-- The pins of a cycle: `rx_valid` is 1 when a byte is unread and `rx_data` is the oldest (R32, R170);
`rst` is asserted by the reset generator and when the watchdog has expired (R173). -/
def System.pins (y : System) (o : Outside) : Input where
  rst := o.rst || y.restart
  rxValid := !y.source.isEmpty
  rxData := y.source.headD o.idleData
  tick := o.tick

/-- The unread bytes after a cycle that starts with `q` unread. A byte that was taken is gone (R170); a byte
that arrives goes to the end. Where the buffer is full, the result is free: the overflow policy is not
defined (U2), nor whether taking a byte in the same cycle makes room for the one that arrives (log 13). -/
def receive (q : List Byte) (taken : Bool) : Option Byte → List Byte
  | none => if taken then q.tail else q
  | some b =>
    if q.length < config.rxBufferDepth then (if taken then q.tail else q) ++ [b]
    else if taken then Config.overflowWhileTaken q.tail b
    else Config.overflow q b

/-- One clock cycle of core and environment. A byte that arrives is unread from the next cycle on
(log 12). -/
def System.step (interval : Nat) (y : System) (o : Outside) : Host.Outcome System Fault Refusal :=
  match Machine.step (y.core.offer (y.pins o)) with
  | .next t =>
    .next
      { core := t
        source := receive y.source t.out.rxTake o.arrival
        watchdog := (y.watchdog.next interval t.out).1
        restart := (y.watchdog.next interval t.out).2 }
  | .fault e => .fault e
  | .refused e => .refused e

/-- Cycles in order. -/
def System.run (interval : Nat) : List Outside → System → Host.Outcome System Fault Refusal
  | [], y => .next y
  | o :: os, y =>
    match y.step interval o with
    | .next z => System.run interval os z
    | .fault e => .fault e
    | .refused e => .refused e

end Sys2Proof.Machine
end

