-- ==== Sys2Proof/Safety.lean ====
section
/-! DEFINITION. What a safe run is, in the terms the statements use: the invariant of R37 (10_state.md),
what the framer knows inside a frame, and the states a run from reset can reach. -/

namespace Sys2Proof.Machine

/-- Every output inert: all lines floating, the dedicated line low ("all off", R131). -/
def Registers.allOff (S : Registers) : Prop := S.lineEn = 0 ∧ S.aux = false

/-- The outputs show what `apply(v)` gives (R131, R138). -/
def Registers.shows (S : Registers) (v : Command) : Prop := S.lineEn = (apply v).1 ∧ S.aux = (apply v).2

/-- `fstate` is one of the four canonical encodings IDLE, C0, C1, C2 (R23, R37). -/
def Registers.canonicalFstate (S : Registers) : Prop :=
  S.fstate = FState.idle ∨ S.fstate = FState.collecting 0 ∨ S.fstate = FState.collecting 1 ∨
    S.fstate = FState.collecting 2

/-- The clauses of R37 that every operation keeps: the canonical `fstate`, `acc[15:14] == 0`,
`crc[0] == 0`, `countdown <= TIMEOUT_TICKS`, `line_en[15:12] == 0`. -/
structure Registers.Bounded (S : Registers) : Prop where
  fstate : S.canonicalFstate
  acc : S.acc.extractLsb' 14 2 = 0
  crc : S.crc.getLsbD 0 = false
  countdown : S.countdown ≤ config.timeoutTicks
  lines : S.lineEn.extractLsb' 11 4 = 0

/-- The invariant of R37: the clauses above, and a countdown at zero means all outputs off. R37 says the
last clause of states with `booted == 1` and of `S_reset`; here it is said of every state, which is
stronger and is what a step keeps. -/
structure Registers.Inv (S : Registers) : Prop where
  bounded : S.Bounded
  off : S.countdown = 0 → S.allOff

/-- What `acc` and `crc` hold inside a frame, in terms of the bytes consumed: nothing and the marker's
CRC in C0; the high part and its CRC in C1; the whole command and `crc3` in C2 (R76, R101). -/
def Registers.InFrame (S : Registers) : Prop :=
  S.inPacket = true →
    (S.length = 0 → S.acc = 0 ∧ S.crc = markerCrc) ∧
    (S.length = 1 → ∃ h, S.acc = highPart h ∧ S.crc = crc7Update markerCrc (lowByte h)) ∧
    (S.length = 2 → ∃ h l, S.acc = assemble h l ∧ S.crc = frameCrc h l)

/-- The states a run from reset can reach, whatever the environment applies: any stimulus may be listed
at the start, and a cycle for which none is listed has a free input record. -/
inductive Reachable : State → Prop where
  | reset (items : List Stimulus) : Reachable { State.reset with stimulus := items }
  | step {s t : State} : Reachable s → Machine.step s = .next t → Reachable t

/-- The command whose outputs should show after a cycle, from the one before it (R138): 0 after a reset,
the accepted command after an acceptance, 0 after a Poll that found the countdown at zero. -/
def expectedCommand (last : Command) (S : Registers) (inp : Input) : Command :=
  if inp.rst then 0
  else if accepts S inp then S.acc
  else if timesOut S inp then 0
  else last

/-- `n` steps of the machine. -/
def runSteps : Nat → State → Result
  | 0, s => .next s
  | n + 1, s => andThen (Machine.step s) (runSteps n)

/-- The registers after a list of cycles, by the spec's own `step` (R147). -/
def coreRun : List Input → Registers → Registers
  | [], S => S
  | p :: ps, S => coreRun ps (coreStep S p).1

/-- No reset and no acceptance in a list of cycles (R149). -/
def NoAcceptance : List Input → Registers → Prop
  | [], _ => True
  | p :: ps, S => p.rst = false ∧ accepts S p = false ∧ NoAcceptance ps (coreStep S p).1

/-- How many ticks a list of cycles holds: the core counts cycles with `tick == 1` (R186). -/
def tickCount (ps : List Input) : Nat := (ps.filter fun p => p.tick).length

/-- The bytes a list of RUN cycles consumes, in order (R51, R60). -/
def consumed (ps : List Input) : List Byte := (ps.filter fun p => p.rxValid).map fun p => p.rxData

/-- How many bytes the core takes over a list of cycles, resets and BOOT cycles included (R51). -/
def takenBytes : List Input → Registers → Nat
  | [], _ => 0
  | p :: ps, S => (if (coreStep S p).2.rxTake then 1 else 0) + takenBytes ps (coreStep S p).1

/-- The bytes a list of events brings, in order (R9). -/
def eventBytes : List Event → List Byte
  | [] => []
  | .byte c :: es => c :: eventBytes es
  | .tick :: es => eventBytes es
  | .poll :: es => eventBytes es

end Sys2Proof.Machine
end

