-- ==== Sys2Proof/Certificates/Slice0/Obligations.lean ====
section
/-! DEFINITION. The statements about the model, each formalising rules of spec/ or derived from them. No
proof stands here. -/

open Sys2Proof Sys2Proof.Machine

/-! ### CRC Engine (40_crc.md) -/

/-- R102 (the spec's derivation from R100): the eight bits of `crc7_update` are this network of the bits
of `t = crc ^ data`. -/
def Obligations.CrcUpdateIsTheNetwork : Prop :=
  ∀ crc data : Byte,
    let t := crc ^^^ data
    let r := crc7Update crc data
    r.getLsbD 0 = false ∧
    r.getLsbD 1 = (t.getLsbD 0 ^^ t.getLsbD 4 ^^ t.getLsbD 7) ∧
    r.getLsbD 2 = (t.getLsbD 1 ^^ t.getLsbD 5) ∧
    r.getLsbD 3 = (t.getLsbD 2 ^^ t.getLsbD 6) ∧
    r.getLsbD 4 = (t.getLsbD 0 ^^ t.getLsbD 3 ^^ t.getLsbD 4) ∧
    r.getLsbD 5 = (t.getLsbD 1 ^^ t.getLsbD 4 ^^ t.getLsbD 5) ∧
    r.getLsbD 6 = (t.getLsbD 2 ^^ t.getLsbD 5 ^^ t.getLsbD 6) ∧
    r.getLsbD 7 = (t.getLsbD 3 ^^ t.getLsbD 6 ^^ t.getLsbD 7)

/-- R103 (b), (c), (d), (e), (g) (the spec's derivations from R100): bit 0 of the result is 0; no
iteration loses a carry; only the XOR of the operands matters; the function is linear over XOR; and
`>> 1` gives at most 0x7F and loses no information. -/
def Obligations.CrcUpdateObeysTheEngineLaws : Prop :=
  ∀ c d a b : Byte,
    (crc7Update c d).getLsbD 0 = false ∧
    (if c.getLsbD 7 then c ^^^ 0x89 else c).getLsbD 7 = false ∧
    crc7Update c d = crc7Update (c ^^^ d) 0x00 ∧
    crc7Update c d = crc7Update 0x00 (c ^^^ d) ∧
    crc7Update c d = crc7Update c 0x00 ^^^ crc7Update 0x00 d ∧
    crc7Update 0x00 (a ^^^ b) = crc7Update 0x00 a ^^^ crc7Update 0x00 b ∧
    crc7Update c d >>> 1 ≤ 0x7F ∧
    (crc7Update c d >>> 1) <<< 1 = crc7Update c d

/-- R105 (the spec's derivation from R100): `crc7_update(c, d) = T[c ^ d]` with the 256-entry table of
40_crc.md, row by row. -/
def Obligations.CrcUpdateIsTheTable : Prop :=
  let table : List Nat :=
    [0x00, 0x12, 0x24, 0x36, 0x48, 0x5A, 0x6C, 0x7E, 0x90, 0x82, 0xB4, 0xA6, 0xD8, 0xCA, 0xFC, 0xEE] ++
    [0x32, 0x20, 0x16, 0x04, 0x7A, 0x68, 0x5E, 0x4C, 0xA2, 0xB0, 0x86, 0x94, 0xEA, 0xF8, 0xCE, 0xDC] ++
    [0x64, 0x76, 0x40, 0x52, 0x2C, 0x3E, 0x08, 0x1A, 0xF4, 0xE6, 0xD0, 0xC2, 0xBC, 0xAE, 0x98, 0x8A] ++
    [0x56, 0x44, 0x72, 0x60, 0x1E, 0x0C, 0x3A, 0x28, 0xC6, 0xD4, 0xE2, 0xF0, 0x8E, 0x9C, 0xAA, 0xB8] ++
    [0xC8, 0xDA, 0xEC, 0xFE, 0x80, 0x92, 0xA4, 0xB6, 0x58, 0x4A, 0x7C, 0x6E, 0x10, 0x02, 0x34, 0x26] ++
    [0xFA, 0xE8, 0xDE, 0xCC, 0xB2, 0xA0, 0x96, 0x84, 0x6A, 0x78, 0x4E, 0x5C, 0x22, 0x30, 0x06, 0x14] ++
    [0xAC, 0xBE, 0x88, 0x9A, 0xE4, 0xF6, 0xC0, 0xD2, 0x3C, 0x2E, 0x18, 0x0A, 0x74, 0x66, 0x50, 0x42] ++
    [0x9E, 0x8C, 0xBA, 0xA8, 0xD6, 0xC4, 0xF2, 0xE0, 0x0E, 0x1C, 0x2A, 0x38, 0x46, 0x54, 0x62, 0x70] ++
    [0x82, 0x90, 0xA6, 0xB4, 0xCA, 0xD8, 0xEE, 0xFC, 0x12, 0x00, 0x36, 0x24, 0x5A, 0x48, 0x7E, 0x6C] ++
    [0xB0, 0xA2, 0x94, 0x86, 0xF8, 0xEA, 0xDC, 0xCE, 0x20, 0x32, 0x04, 0x16, 0x68, 0x7A, 0x4C, 0x5E] ++
    [0xE6, 0xF4, 0xC2, 0xD0, 0xAE, 0xBC, 0x8A, 0x98, 0x76, 0x64, 0x52, 0x40, 0x3E, 0x2C, 0x1A, 0x08] ++
    [0xD4, 0xC6, 0xF0, 0xE2, 0x9C, 0x8E, 0xB8, 0xAA, 0x44, 0x56, 0x60, 0x72, 0x0C, 0x1E, 0x28, 0x3A] ++
    [0x4A, 0x58, 0x6E, 0x7C, 0x02, 0x10, 0x26, 0x34, 0xDA, 0xC8, 0xFE, 0xEC, 0x92, 0x80, 0xB6, 0xA4] ++
    [0x78, 0x6A, 0x5C, 0x4E, 0x30, 0x22, 0x14, 0x06, 0xE8, 0xFA, 0xCC, 0xDE, 0xA0, 0xB2, 0x84, 0x96] ++
    [0x2E, 0x3C, 0x0A, 0x18, 0x66, 0x74, 0x42, 0x50, 0xBE, 0xAC, 0x9A, 0x88, 0xF6, 0xE4, 0xD2, 0xC0] ++
    [0x1C, 0x0E, 0x38, 0x2A, 0x54, 0x46, 0x70, 0x62, 0x8C, 0x9E, 0xA8, 0xBA, 0xC4, 0xD6, 0xE0, 0xF2]
  ∀ c d : Byte, table[(c ^^^ d).toNat]? = some (crc7Update c d).toNat

/-- R104 (the spec marks it "from general knowledge"; an outside check of R100 and of the spec's decision D9 on
CRC_COMBINE): one step is division by `G(x) = x^7 + x^3 + 1` over GF(2), and the trailer of a frame is the
remainder of the marker and the two data bytes times `x^7`. `q * G` is `q << 7 ^ q << 3 ^ q`; the bounds say
that no product overflows its word, and a remainder has degree at most 6. -/
def Obligations.TrailerIsTheRemainderOfDivisionByG : Prop :=
  (∀ c d : Byte, c.getLsbD 0 = false →
    crc7Update c d >>> 1 ≤ 0x7F ∧
    ∃ q : BitVec 16, q ≤ 0xFF ∧
      (c >>> 1).setWidth 16 <<< 8 ^^^ d.setWidth 16 <<< 7 =
        (q <<< 7 ^^^ q <<< 3 ^^^ q) ^^^ (crc7Update c d >>> 1).setWidth 16) ∧
  (∀ h l : DataBits, ∃ q : BitVec 32, q ≤ 0xFFFFFF ∧
    (0x80#8 ++ (0#1 ++ h) ++ (0#1 ++ l) : BitVec 24).setWidth 32 <<< 7 =
      (q <<< 7 ^^^ q <<< 3 ^^^ q) ^^^ (trailer h l).setWidth 32)

/-! ### Packet Assembler (41_framer.md) -/

/-- R111, MARKER. The byte 0x80 is MARKER in every framer state. Its whole effect: C0, command 0, CRC
0x82, the byte taken; every other field of the state is as before. `accept` is 0 and the label is RESTART
if a frame was in progress, START otherwise. A trailer is never 0x80. Two markers in a row leave the
registers of one. -/
def Obligations.MarkerOpensAFrameFromAnyState : Prop :=
  (∀ F : FState, decodeByte F 0x80 = .marker) ∧
  (∀ s : State,
    exec .marker s = .next
      { s with
        inPacket := true, length := 0, acc := 0x0000, crc := crc7Update 0x00 0x80
        out := { s.out with rxTake := true, wdtPet := true } }) ∧
  crc7Update 0x00 0x80 = 0x82 ∧
  (∀ crc : Byte, crc >>> 1 ≠ 0x80) ∧
  (∀ s : State, andThen (exec .marker s) (exec .marker) = exec .marker s) ∧
  (∀ F : Framer, (framerStep F 0x80).accept = false ∧
    (framerStep F 0x80).label = if F.inPacket then .restart else .start) ∧
  framerStep { inPacket := true, length := 1, acc := 0x0280, crc := 0xFC } 0x80 =
    { framer := { inPacket := true, length := 0, acc := 0x0000, crc := 0x82 }
      accept := false, label := .restart }

/-- R112, IGNORE. In IDLE every byte but 0x80 is IGNORE, HIGH bytes too. No register changes; the byte is
taken and pets the watchdog; `accept` is 0. -/
def Obligations.IgnoreChangesNoRegister : Prop :=
  (∀ (F : FState) (c : Byte), F.inPacket = false → c ≠ 0x80 → decodeByte F c = .ignore c) ∧
  (∀ (c : Byte) (s : State),
    exec (.ignore c) s = .next { s with out := { s.out with rxTake := true, wdtPet := true } }) ∧
  (∀ (F : Framer) (c : Byte), F.inPacket = false → c ≠ 0x80 →
    framerStep F c = { framer := F, accept := false, label := .ignore }) ∧
  framerStep { inPacket := false, length := 0, acc := 0x0001, crc := 0x98 } 0x33 =
    { framer := { inPacket := false, length := 0, acc := 0x0001, crc := 0x98 }
      accept := false, label := .ignore }

/-- R113, HI. A LOW byte in C0 is HI. It stores its data bits as command bits 13 to 7, every other bit of
`acc` 0 whatever `acc` was; folds the whole byte into `crc`; goes to C1. Nothing else changes but that the
byte is taken. In every state of C0 that a run from reset reaches, `acc` is 0. With the corner cases and the
worked example of the rule. -/
def Obligations.HiStoresTheHighPart : Prop :=
  (∀ h : DataBits, decodeByte (FState.collecting 0) (0#1 ++ h) = .hi h) ∧
  (∀ (h : DataBits) (s : State),
    exec (.hi h) s = .next
      { s with
        length := 1, acc := h.setWidth 16 <<< 7, crc := crc7Update s.crc (0#1 ++ h)
        out := { s.out with rxTake := true, wdtPet := true } }) ∧
  (∀ h : DataBits, (h.setWidth 16 <<< 7 : Command).extractLsb' 7 7 = h ∧
    (h.setWidth 16 <<< 7 : Command).extractLsb' 0 7 = 0 ∧
    (h.setWidth 16 <<< 7 : Command).extractLsb' 14 2 = 0) ∧
  (∀ F : Framer, F.inPacket = true → F.length = 0 → ∀ h : DataBits,
    (framerStep F (0#1 ++ h)).accept = false ∧ (framerStep F (0#1 ++ h)).label = .hi) ∧
  (∀ s : State, Reachable s → s.fstate = FState.collecting 0 → s.acc = 0x0000) ∧
  ((0x00#7).setWidth 16 <<< 7 : Command) = 0x0000 ∧ ((0x7F#7).setWidth 16 <<< 7 : Command) = 0x3F80 ∧
  ((0x40#7).setWidth 16 <<< 7 : Command) = 0x2000 ∧ ((0x20#7).setWidth 16 <<< 7 : Command) = 0x1000 ∧
  framerStep { inPacket := true, length := 0, acc := 0x0000, crc := 0x82 } 0x02 =
    { framer := { inPacket := true, length := 1, acc := 0x0100, crc := 0x82 }
      accept := false, label := .hi }

/-- R114, LO. A LOW byte in C1 is LO. It ORs its data bits into `acc`, folds the whole byte into `crc`,
goes to C2. Nothing else changes but that the byte is taken. Where `acc` holds only a high part, the OR
acts as a store: the low seven bits become the byte's; and in every state of C1 that a run from reset
reaches, `acc` holds only a high part. -/
def Obligations.LoOrsInTheLowPart : Prop :=
  (∀ l : DataBits, decodeByte (FState.collecting 1) (0#1 ++ l) = .lo l) ∧
  (∀ (l : DataBits) (s : State),
    exec (.lo l) s = .next
      { s with
        length := 2, acc := s.acc ||| ((0#1 ++ l : Byte) &&& 0x7F).setWidth 16
        crc := crc7Update s.crc (0#1 ++ l)
        out := { s.out with rxTake := true, wdtPet := true } }) ∧
  (∀ (h l : DataBits) (s t : State), s.acc = h.setWidth 16 <<< 7 → exec (.lo l) s = .next t →
    t.acc = h.setWidth 16 <<< 7 ||| l.setWidth 16 ∧
    t.acc.extractLsb' 7 7 = h ∧ t.acc.extractLsb' 0 7 = l) ∧
  (∀ F : Framer, F.inPacket = true → F.length = 1 → ∀ l : DataBits,
    (framerStep F (0#1 ++ l)).accept = false ∧ (framerStep F (0#1 ++ l)).label = .lo) ∧
  (∀ s : State, Reachable s → s.fstate = FState.collecting 1 →
    s.acc.extractLsb' 0 7 = 0 ∧ ∃ h : DataBits, s.acc = h.setWidth 16 <<< 7) ∧
  framerStep { inPacket := true, length := 1, acc := 0x0100, crc := 0x82 } 0x55 =
    { framer := { inPacket := true, length := 2, acc := 0x0155, crc := 0x06 }
      accept := false, label := .lo }

/-- R115, CHECK. A LOW byte in C2 is CHECK. Its whole effect: to IDLE with `length` 0, `acc` and `crc`
kept and the trailer not folded in; the outputs and the countdown are written only if the 8-bit
`crc >> 1` equals the byte. No run from reset reaches `length` 3. -/
def Obligations.CheckComparesTheTrailerAndReturnsToIdle : Prop :=
  (∀ c : DataBits, decodeByte (FState.collecting 2) (0#1 ++ c) = .check c) ∧
  (∀ (c : DataBits) (s : State),
    exec (.check c) s = .next
      (if s.crc >>> 1 = 0#1 ++ c then
        { s with
          inPacket := false, length := 0
          lineEn := (apply s.acc).1, aux := (apply s.acc).2, countdown := 1000
          out := { s.out with rxTake := true, wdtPet := true } }
      else
        { s with
          inPacket := false, length := 0
          out := { s.out with rxTake := true, wdtPet := true } })) ∧
  (∀ F : Framer, F.inPacket = true → F.length = 2 → ∀ c : DataBits,
    ((framerStep F (0#1 ++ c)).accept = true ↔ F.crc >>> 1 = 0#1 ++ c)) ∧
  (∀ s : State, Reachable s → s.length ≠ 3)

/-- R116. In a cycle that accepts, the outputs become `apply(acc)` and the countdown TIMEOUT_TICKS at the
edge that returns the framer to IDLE; and that is the only way the countdown can rise or the outputs
become anything but what they were or off. A second acceptance of the same command gives the same outputs
and reloads again. -/
def Obligations.OnlyAcceptanceDrivesOutputsOrRaisesTheCountdown : Prop :=
  (∀ (s : State) (p : Input), accepts s.toRegisters p = true →
    ∃ t, step (s.offer p) = .next t ∧
      t.lineEn = (apply s.acc).1 ∧ t.aux = (apply s.acc).2 ∧ t.countdown = 1000 ∧
      t.inPacket = false ∧ t.length = 0 ∧ t.acc = s.acc) ∧
  (∀ (s : State) (p : Input), p.rst = false → accepts s.toRegisters p = false →
    ∃ t, step (s.offer p) = .next t ∧
      t.countdown ≤ s.countdown ∧
      ((t.lineEn = s.lineEn ∧ t.aux = s.aux) ∨ (t.lineEn = 0 ∧ t.aux = false))) ∧
  (∀ (s u t v : State) (p q : Input), accepts s.toRegisters p = true → accepts u.toRegisters q = true →
    s.acc = u.acc → step (s.offer p) = .next t → step (u.offer q) = .next v →
    t.lineEn = v.lineEn ∧ t.aux = v.aux ∧ t.countdown = 1000 ∧ v.countdown = 1000) ∧
  framerStep { inPacket := true, length := 2, acc := 0x0155, crc := 0x06 } 0x03 =
    { framer := { inPacket := false, length := 0, acc := 0x0155, crc := 0x06 }
      accept := true, label := .accept }

/-- R117, CRCFAIL. A CHECK whose byte is not `crc >> 1` goes to IDLE and writes nothing else: countdown,
outputs, `acc` and `crc` are as before. The source's frame `[0x80, 0x00, 0x01, wrong_crc]`, with any fourth
byte but the right one, leaves outputs and countdown unchanged, from every state of RUN in which a countdown
at zero means outputs off (R37, EveryStepKeepsTheInvariant). -/
def Obligations.CrcMismatchWritesNoOutputAndNoCountdown : Prop :=
  (∀ (c : DataBits) (s : State), s.crc >>> 1 ≠ 0#1 ++ c →
    exec (.check c) s = .next
      { s with
        inPacket := false, length := 0
        out := { s.out with rxTake := true, wdtPet := true } }) ∧
  (∀ F : Framer, F.inPacket = true → F.length = 2 → ∀ c : DataBits, F.crc >>> 1 ≠ 0#1 ++ c →
    framerStep F (0#1 ++ c) =
      { framer := { F with inPacket := false, length := 0 }, accept := false, label := .crcFail }) ∧
  (∀ (s : State) (xx : Byte), s.booted = true → (s.countdown = 0 → s.allOff) → xx ≠ 0x4C →
    ∃ t, runSteps 4 (s.offerAll (Stimulus.badFrame 0x0001 xx)) = .next t ∧
      t.lineEn = s.lineEn ∧ t.aux = s.aux ∧ t.countdown = s.countdown) ∧
  framerStep { inPacket := true, length := 2, acc := 0x0001, crc := 0x98 } 0x4D =
    { framer := { inPacket := false, length := 0, acc := 0x0001, crc := 0x98 }
      accept := false, label := .crcFail }

/-- R118, ABORT. Inside a frame, at any `length`, a byte 0x81 to 0xFF is ABORT: to IDLE with `length` 0,
`acc` and `crc` kept, nothing else changed but that the byte is taken; `accept` is 0, in C2 too. -/
def Obligations.AbortDiscardsTheFrameSilently : Prop :=
  (∀ (F : FState) (b : DataBits), F.inPacket = true → b ≠ 0 → decodeByte F (1#1 ++ b) = .abort b) ∧
  (∀ (b : DataBits) (s : State),
    exec (.abort b) s = .next
      { s with
        inPacket := false, length := 0
        out := { s.out with rxTake := true, wdtPet := true } }) ∧
  (∀ (F : Framer) (b : DataBits), F.inPacket = true → b ≠ 0 →
    framerStep F (1#1 ++ b) =
      { framer := { F with inPacket := false, length := 0 }, accept := false, label := .abort }) ∧
  framerStep { inPacket := true, length := 1, acc := 0x0280, crc := 0xFC } 0xFF =
    { framer := { inPacket := false, length := 0, acc := 0x0280, crc := 0xFC }
      accept := false, label := .abort }

/-- R119, OVERRUN (on the spec's decision D18): a LOW byte in COLLECTING(3) goes to IDLE and is not
compared with the CRC; nothing else changes but that the byte is taken. -/
def Obligations.OverrunDiscardsTheFrame : Prop :=
  (∀ b : DataBits, decodeByte (FState.collecting 3) (0#1 ++ b) = .overrun b) ∧
  (∀ (b : DataBits) (s : State),
    exec (.overrun b) s = .next
      { s with
        inPacket := false, length := 0
        out := { s.out with rxTake := true, wdtPet := true } }) ∧
  framerStep { inPacket := true, length := 3, acc := 0x0155, crc := 0x06 } 0x03 =
    { framer := { inPacket := false, length := 0, acc := 0x0155, crc := 0x06 }
      accept := false, label := .overrun }

/-- R110 (with the spec's decisions D7, D18): the operation that a byte decodes to does, in every state,
what `framer_step` says: the next framer state, and the ACCEPT action exactly when `accept` is 1; no other
register is written. -/
def Obligations.ByteOperationsRefineFramerStep : Prop :=
  ∀ (s : State) (c : Byte),
    ∃ t, exec (decodeByte s.fstate c) s = .next t ∧
      t.framer = (framerStep s.framer c).framer ∧
      (if (framerStep s.framer c).accept then
        t.lineEn = (apply s.acc).1 ∧ t.aux = (apply s.acc).2 ∧ t.countdown = config.timeoutTicks
      else t.lineEn = s.lineEn ∧ t.aux = s.aux ∧ t.countdown = s.countdown) ∧
      t.booted = s.booted ∧ t.out = { s.out with rxTake := true, wdtPet := true } ∧
      t.stimulus = s.stimulus ∧ t.cycle = s.cycle

/-- R120 (the spec's derivation from R110): the transition table of `fstate`, from every state of RUN, in
a cycle that consumes a byte; and in a cycle that consumes none the framer holds. -/
def Obligations.FramerTransitionTable : Prop :=
  ∀ (s : State) (p : Input), p.rst = false → s.booted = true →
    ∃ t, step (s.offer p) = .next t ∧
      (p.rxValid = false → t.framer = s.framer) ∧
      (p.rxValid = true → t.fstate =
        match byteClass p.rxData with
        | .marker => FState.collecting 0
        | .high => if s.inPacket then FState.idle else s.fstate
        | .low =>
          if s.inPacket = false then s.fstate
          else if s.length = 0 then FState.collecting 1
          else if s.length = 1 then FState.collecting 2
          else FState.idle)

/-! ### Output Policy (42_output_policy.md) -/

/-- R132, CMD_CRUISE. A command with bit 13 set, bit 12 any, drives line `k` only for `k` from 4 to 8 and
there by bit `k`, and forces the dedicated line low; nothing but the outputs is written. -/
def Obligations.CruiseFaultLetsOnlyLines4To8Through : Prop :=
  (∀ (v : Command) (s : State), v.getLsbD 13 = true →
    decodeCommand v = .cmdCruise v ∧
    ∃ t, exec (.cmdCruise v) s = .next t ∧
      (∀ k, 1 ≤ k → k ≤ 15 → t.lineEnabled k = (decide (4 ≤ k ∧ k ≤ 8) && v.getLsbD k)) ∧
      t.aux = false ∧ t = { s with lineEn := t.lineEn, aux := t.aux }) ∧
  apply 0x2000 = (0, false) ∧ apply 0x3FFF = (0x00F8, false) ∧ apply 0x21F0 = (0x00F8, false) ∧
  apply 0x2003 = (0, false) ∧ apply 0x2003 = apply (0x2003 &&& 0x1F0)

/-- R133, CMD_MEDIA. A command with bit 13 clear and bit 12 set drives line `k` only for `k` from 1 to 3
and there by bit `k`, and the dedicated line by bit 0; nothing but the outputs is written. -/
def Obligations.MediaFaultLetsOnlyLines1To3AndAuxThrough : Prop :=
  (∀ (v : Command) (s : State), v.getLsbD 13 = false → v.getLsbD 12 = true →
    decodeCommand v = .cmdMedia v ∧
    ∃ t, exec (.cmdMedia v) s = .next t ∧
      (∀ k, 1 ≤ k → k ≤ 15 → t.lineEnabled k = (decide (k ≤ 3) && v.getLsbD k)) ∧
      t.aux = v.getLsbD 0 ∧ t = { s with lineEn := t.lineEn, aux := t.aux }) ∧
  apply 0x1000 = (0, false) ∧ apply 0x1FFF = (0x0007, true) ∧ apply 0x100F = (0x0007, true)

/-- R134, CMD_NORMAL. A command with bits 13 and 12 clear drives line `k` by bit `k` for every `k`, so
lines 13 and 12 are inert, and the dedicated line by bit 0; bits 15 and 14 are not masked, and where they
are 0 at most lines 1 to 11 are driven; nothing but the outputs is written. -/
def Obligations.NormalCommandDrivesEveryLineByItsBit : Prop :=
  (∀ (v : Command) (s : State), v.getLsbD 13 = false → v.getLsbD 12 = false →
    decodeCommand v = .cmdNormal v ∧
    ∃ t, exec (.cmdNormal v) s = .next t ∧
      (∀ k, 1 ≤ k → k ≤ 15 → t.lineEnabled k = v.getLsbD k) ∧
      t.lineEnabled 13 = false ∧ t.lineEnabled 12 = false ∧
      (v.extractLsb' 14 2 = 0 → ∀ k, 12 ≤ k → k ≤ 15 → t.lineEnabled k = false) ∧
      t.aux = v.getLsbD 0 ∧ t = { s with lineEn := t.lineEn, aux := t.aux }) ∧
  apply 0x0000 = (0, false) ∧ apply 0x0001 = (0, true) ∧ apply 0x0FFF = (0x07FF, true) ∧
  apply 0x0155 = (0x00AA, true)

/-- R130, R131. For every command and every state, running the command's class is the override, bit 13
before bit 12, applied to the command as received, then the split: line `k` is driven low when bit `k` of
the masked command is 1 and floats when 0, the dedicated line is bit 0; `line_out` is 0; `apply` names the
same outputs. `apply(0)` is all off. -/
def Obligations.OverrideMasksFirstThenSplits : Prop :=
  (∀ (v : Command) (s : State),
    let m : Command :=
      if v.getLsbD 13 = true then v &&& 0x01F0
      else if v.getLsbD 12 = true then v &&& 0x000F
      else v
    ∃ t, exec (decodeCommand v) s = .next t ∧
      t = { s with lineEn := (m >>> 1).setWidth 15, aux := m.getLsbD 0 } ∧
      (∀ k, 1 ≤ k → k ≤ 15 → t.lineEnabled k = m.getLsbD k ∧
        t.pad k = if m.getLsbD k then .low else .highImpedance) ∧
      t.lineOut = 0 ∧ t.auxOut = m.getLsbD 0 ∧
      override v = m ∧ apply v = (t.lineEn, t.aux)) ∧
  apply 0x0000 = (0, false) ∧
  (∀ (s : State),
    exec (decodeCommand 0x0000) s = .next { s with lineEn := 0, aux := false })

/-- R78. The three classes of command are disjoint, cover all 65536 values, and are selected by bits 13 and
12; the decoder gives the class, well formed. -/
def Obligations.CommandClassesPartitionTheCommands : Prop :=
  ∀ v : Command,
    (v &&& 0x2000 = 0x2000 ↔ v.getLsbD 13 = true) ∧
    (v &&& 0x3000 = 0x1000 ↔ v.getLsbD 13 = false ∧ v.getLsbD 12 = true) ∧
    (v &&& 0x3000 = 0x0000 ↔ v.getLsbD 13 = false ∧ v.getLsbD 12 = false) ∧
    ((v &&& 0x2000 = 0x2000 ∧ decodeCommand v = .cmdCruise v) ∨
      (v &&& 0x3000 = 0x1000 ∧ decodeCommand v = .cmdMedia v) ∨
      (v &&& 0x3000 = 0x0000 ∧ decodeCommand v = .cmdNormal v)) ∧
    (decodeCommand v).wf = true

/-! ### Liveness Supervisor (43_supervisor.md) and RESET (70_reset_and_hazards.md) -/

/-- R140, TICK (with the spec's decision D4): the countdown less one, never below zero, and the pulse
`tick_reload`; nothing else changes. -/
def Obligations.TickDecrementsAndSaturatesAtZero : Prop :=
  (∀ s : State, ∃ t, exec .tick s = .next t ∧
    t.countdown.toNat = s.countdown.toNat - 1 ∧
    t = { s with countdown := t.countdown, out := { s.out with tickReload := true } })

/-- R141, POLL (with the spec's decision D11): on the level of the countdown, all outputs off if it is
exactly zero; otherwise, and for everything else, nothing changes. -/
def Obligations.PollForcesOutputsOffAtZero : Prop :=
  ∀ s : State,
    exec .poll s = .next
      (if s.countdown = 0 then { s with lineEn := 0, aux := false } else s)

/-- R146, BOOT (with the spec's decisions D12, D21): the operation sets `booted` and pulses `wdt_arm`; in a
cycle with `rst` 0 in BOOT nothing but that happens, whatever is offered and ticked; and in RUN no cycle
without `rst` pulses `wdt_arm` or leaves RUN. -/
def Obligations.BootArmsTheWatchdogOnceAndIgnoresInputs : Prop :=
  (∀ s : State,
    exec .boot s = .next { s with booted := true, out := { s.out with wdtArm := true } }) ∧
  (∀ (s : State) (p : Input), p.rst = false → s.booted = false →
    step (s.offer p) = .next
      { s with
        booted := true
        out := { rxTake := false, wdtArm := true, wdtPet := false, tickReload := false, idle := false }
        cycle := s.cycle + 1 }) ∧
  (∀ (s : State) (p : Input), p.rst = false → s.booted = true →
    ∃ t, step (s.offer p) = .next t ∧ t.booted = true ∧ t.out.wdtArm = false)

/-- R180, R166 (with the spec's decisions D2, D8): the operation, and a cycle with `rst` 1 from any state
and whatever the other inputs, give `S_reset` and all combinational outputs 0. -/
def Obligations.ResetBeatsEverything : Prop :=
  (∀ s : State,
    exec .reset s = .next
      { s with
        inPacket := false, length := 0, acc := 0x0000, crc := 0x00, countdown := 1000
        lineEn := 0, aux := false, booted := false
        out := { rxTake := false, wdtArm := false, wdtPet := false, tickReload := false, idle := false } }) ∧
  (∀ (s : State) (p : Input), p.rst = true →
    step (s.offer p) = .next
      { s with
        inPacket := false, length := 0, acc := 0x0000, crc := 0x00, countdown := 1000
        lineEn := 0, aux := false, booted := false
        out := { rxTake := false, wdtArm := false, wdtPet := false, tickReload := false, idle := false }
        cycle := s.cycle + 1 })

/-- R142, R145. A RUN cycle that offers the matching trailer in C2, with or without a tick and whatever
the countdown: after the edge the framer is in IDLE, the outputs are `apply(acc)` and the countdown is
TIMEOUT_TICKS, not one less; the results of Tick and Poll are overridden. -/
def Obligations.AcceptanceBeatsTheTickAndThePollOfItsCycle : Prop :=
  (∀ (s : State) (c : DataBits) (tick : Bool),
    s.booted = true → s.fstate = FState.collecting 2 → s.crc >>> 1 = 0#1 ++ c →
    step (s.offer { rst := false, rxValid := true, rxData := 0#1 ++ c, tick := tick }) = .next
      { s with
        inPacket := false, length := 0
        lineEn := (apply s.acc).1, aux := (apply s.acc).2, countdown := 1000
        out :=
          { rxTake := true, wdtArm := false, wdtPet := true, tickReload := tick, idle := false }
        cycle := s.cycle + 1 }) ∧
  (0x06#8 >>> 1 = 0#1 ++ 0x03#7) ∧ apply 0x0155 = (0x00AA, true)

/-- R144, R51 (with the spec's decisions D3, D12): the watchdog is petted in exactly the cycles in which a
byte is consumed, whatever the framer does with it, and a byte is consumed in exactly the RUN cycles in
which one is offered. -/
def Obligations.EveryConsumedBytePetsTheWatchdog : Prop :=
  ∀ (s : State) (p : Input), ∃ t, step (s.offer p) = .next t ∧
    t.out.wdtPet = t.out.rxTake ∧
    t.out.rxTake = (!p.rst && s.booted && p.rxValid) ∧
    t.out.tickReload = (!p.rst && s.booted && p.tick) ∧
    t.out.idle = (!p.rst && s.booted && !p.rxValid)

/-- R52. While `rx_valid` is 0 nothing depends on `rx_data`: two input records that differ only there give
the same step. -/
def Obligations.RxDataIsIgnoredWithoutRxValid : Prop :=
  ∀ (s : State) (rst tick : Bool) (d e : Byte),
    step (s.offer { rst := rst, rxValid := false, rxData := d, tick := tick }) =
      step (s.offer { rst := rst, rxValid := false, rxData := e, tick := tick })

/-! ### The whole cycle -/

/-- A step runs the decoded operations. Whatever item is fetched: a FRAME item is its `exec`; a cycle is the
`exec` of RESET, or of BOOT, or in RUN of TICK if `tick` is 1, then of POLL, then of the operation that
the byte decodes to if one is offered, each on the result of the one before; before them the step takes
the item off the stimulus, clears the pulses, sets `idle` and counts the cycle. -/
def Obligations.StepRunsTheDecodedOperations : Prop :=
  (∀ (s : State) (h l c : DataBits), s.fetch = .frame h l c →
    step s = exec (.frame h l c) s.popStimulus) ∧
  (∀ (s : State) (p : Input), s.fetch = .cycle p →
    let b := s.popStimulus.beginCycle p
    (p.rst = true → step s = exec .reset b) ∧
    (p.rst = false → s.booted = false → step s = exec .boot b) ∧
    (p.rst = false → s.booted = true →
      step s =
        andThen (if p.tick then exec .tick b else .next b) fun b1 =>
          andThen (exec .poll b1) fun b2 =>
            if p.rxValid then exec (decodeByte s.fstate p.rxData) b2 else .next b2)) ∧
  (∀ (s : State) (p : Input) (rest : List Stimulus), s.stimulus = .cycle p :: rest →
    s.fetch = .cycle p ∧ s.popStimulus = { s with stimulus := rest }) ∧
  (∀ (s : State) (p : Input),
    s.beginCycle p =
      { s with
        out :=
          { rxTake := false, wdtArm := false, wdtPet := false, tickReload := false
            idle := !p.rst && s.booted && !p.rxValid }
        cycle := s.cycle + 1 })

/-- R147 (with the spec's decision D5 on the order Tick, Poll, Byte): one step of a cycle is the spec's
`step(S, in)`, registers and combinational outputs, from every state and for every input record. -/
def Obligations.StepRefinesTheWholeCycleFunction : Prop :=
  ∀ (s : State) (p : Input),
    step (s.offer p) = .next
      { toRegisters := (coreStep s.toRegisters p).1
        out := (coreStep s.toRegisters p).2
        stimulus := s.stimulus
        cycle := s.cycle + 1 }

/-- R147 "Total on every `S` and every `in`", R160: every step of every state answers a next state. -/
def Obligations.EveryStepAnswersANextState : Prop :=
  ∀ s : State, ∃ t, step s = .next t

/-- R148 (the spec's derivation): a RUN cycle with no reset, no tick and no byte keeps every register while
the countdown is not zero, forces the outputs off when it is, and under the invariant of R37 keeps every
register in both cases. -/
def Obligations.QuietCyclesChangeNoRegister : Prop :=
  ∀ (s : State) (d : Byte), s.booted = true →
    ∃ t, step (s.offer { rst := false, rxValid := false, rxData := d, tick := false }) = .next t ∧
      (s.countdown ≠ 0 → t.toRegisters = s.toRegisters) ∧
      (s.countdown = 0 → t.toRegisters = { s.toRegisters with lineEn := 0, aux := false }) ∧
      (s.toRegisters.Inv → t.toRegisters = s.toRegisters)

/-- R61 (with the spec's decision D5): a RUN cycle without reset is the events Tick, Poll and Byte of the
event level, in that order, each on the state the one before left. -/
def Obligations.RunCycleIsItsEventsInOrder : Prop :=
  ∀ (s : State) (p : Input), p.rst = false → s.booted = true →
    runCycle p s = runEvents p.events (s.beginCycle p)

/-! ### Invariants -/

/-- The reset state satisfies the invariant of R37 and what R101 says inside a frame; its outputs show
all off; its registers are those of R36. -/
def Obligations.ResetStateSatisfiesTheInvariants : Prop :=
  State.reset.toRegisters.Inv ∧ State.reset.InFrame ∧ State.reset.shows 0x0000 ∧
  State.reset.toRegisters =
    { inPacket := false, length := 0, acc := 0x0000, crc := 0x00, countdown := 1000
      lineEn := 0, aux := false, booted := false }

/-- R37 as an inductive invariant (the spec's derivation): every step from every state that satisfies it
gives a state that satisfies it. -/
def Obligations.EveryStepKeepsTheInvariant : Prop :=
  ∀ s t : State, s.toRegisters.Inv → step s = .next t → t.toRegisters.Inv

/-- R37 clause by clause (the spec's derivation): every state a run from reset reaches, whatever the
environment applies, satisfies all of its clauses. The last clause here is not R37's: BOOT is entered by reset
only and left after one cycle (R146, R180), so a state of BOOT is `S_reset`. -/
def Obligations.ReachableStatesSatisfyTheirBounds : Prop :=
  ∀ s : State, Reachable s →
    (s.fstate.bits = 0b000 ∨ s.fstate.bits = 0b100 ∨ s.fstate.bits = 0b101 ∨ s.fstate.bits = 0b110) ∧
    s.acc.getLsbD 15 = false ∧ s.acc.getLsbD 14 = false ∧
    s.crc.getLsbD 0 = false ∧
    s.countdown.toNat ≤ 1000 ∧
    (∀ k, 12 ≤ k → k ≤ 15 → s.lineEnabled k = false) ∧
    (s.booted = true → s.countdown = 0 → s.lineEn = 0 ∧ s.aux = false) ∧
    (s.booted = false → s.toRegisters = Registers.reset)

/-- The event level (R9, D5): in every interleaving of Byte, Tick and Poll events, of any length and from
every state that satisfies them, the clauses of R37 on `fstate`, `acc`, `crc`, `countdown` and `line_en`
are kept; and a Poll at the end leaves all outputs off if the countdown is zero. -/
def Obligations.EveryInterleavingOfEventsKeepsTheBounds : Prop :=
  ∀ (es : List Event) (s : State), s.toRegisters.Bounded →
    ∃ t, runEvents es s = .next t ∧ t.toRegisters.Bounded ∧
      ∃ u, runEvents (es ++ [.poll]) s = .next u ∧ u.toRegisters.Inv

/-- R101, R76 as an inductive invariant: inside a frame `acc` and `crc` are what the bytes consumed since
the marker make them, and every step keeps that. -/
def Obligations.EveryStepKeepsTheFrameInProgress : Prop :=
  ∀ s t : State, s.InFrame → step s = .next t → t.InFrame

/-- R138 (the spec's derivation): if the outputs show a command, then after any cycle they show the accepted
command if the cycle accepted one, all off if its Poll found the countdown at zero or it was a reset, and
otherwise the same command as before. -/
def Obligations.OutputsFollowTheLastAcceptedCommand : Prop :=
  State.reset.shows 0x0000 ∧
  ∀ (s : State) (p : Input) (v : Command), s.shows v →
    ∃ t, step (s.offer p) = .next t ∧ t.shows (expectedCommand v s.toRegisters p)

/-! ### Runs -/

/-- R121 (a), the source's round trip (95_test_vectors.md E3): from every state of RUN, whatever the framer
was doing, FRAME V is accepted and the outputs become `apply(V)`, the countdown TIMEOUT_TICKS, the framer
IDLE. One step expands the frame (log 5) and four are its cycles. -/
def Obligations.FrameIsAcceptedFromEveryRunState : Prop :=
  ∀ (s : State) (v : Command), s.booted = true → v ≤ 0x3FFF →
    runSteps 5 (s.offerAll [Stimulus.ofCommand v]) = .next
      { s with
        inPacket := false, length := 0, acc := v
        crc := frameCrc (v.extractLsb' 7 7) (v.extractLsb' 0 7)
        countdown := 1000, lineEn := (apply v).1, aux := (apply v).2
        out := { rxTake := true, wdtArm := false, wdtPet := true, tickReload := false, idle := false }
        cycle := s.cycle + 4 }

/-- R121 (a), R60, at full strength: whatever cycles without a byte, with ticks or without, fall between
the bytes of a frame, and from every state of RUN, a run without reset whose consumed bytes are the four of
`encode(V)` and whose last cycle consumes the trailer ends with V accepted. -/
def Obligations.FrameIsAcceptedWhateverFallsBetweenItsBytes : Prop :=
  ∀ (s : State) (v : Command) (ps : List Input) (last : Input),
    s.booted = true → v ≤ 0x3FFF →
    (∀ p ∈ ps ++ [last], p.rst = false) → last.rxValid = true →
    consumed (ps ++ [last]) =
      Sys2Proof.frameBytes (v.extractLsb' 7 7) (v.extractLsb' 0 7)
        (trailer (v.extractLsb' 7 7) (v.extractLsb' 0 7)) →
    ∃ t, runSteps (ps.length + 1) (s.offerAll ((ps ++ [last]).map .cycle)) = .next t ∧
      t.fstate = FState.idle ∧ t.acc = v ∧ t.shows v ∧ t.countdown = 1000 ∧ t.booted = true

/-- A frame with any trailer but the right one changes neither outputs nor countdown (95_test_vectors.md
E8; R117), from every state of RUN in which a countdown at zero means outputs off. One step expands the frame
(log 5) and four are its cycles. -/
def Obligations.FrameWithAWrongTrailerChangesNoOutput : Prop :=
  ∀ (s : State) (h l c : DataBits),
    s.booted = true → (s.countdown = 0 → s.allOff) → c ≠ trailer h l →
    ∃ t, runSteps 5 (s.offerAll [.frame h l c]) = .next t ∧
      t.fstate = FState.idle ∧ t.lineEn = s.lineEn ∧ t.aux = s.aux ∧ t.countdown = s.countdown

/-- R188 (the spec's derivation): a frame that differs from a well-formed one in one or two of the 21 bits
`[6:0]` of its last three bytes is never accepted. Flips of a bit 7 and of the marker are not among them. Flip
`i` counts from bit 0 of the trailer; `i = j` is a single flip. One step expands the frame (log 5) and four are
its cycles. -/
def Obligations.OneOrTwoFlippedBitsAreNeverAccepted : Prop :=
  ∀ (s : State) (h l : DataBits) (i j : Nat),
    s.booted = true → (s.countdown = 0 → s.allOff) → i < 21 → j < 21 →
    let m : BitVec 21 := 1#21 <<< i ||| 1#21 <<< j
    ∃ t, runSteps 5
        (s.offerAll
          [.frame (h ^^^ m.extractLsb' 14 7) (l ^^^ m.extractLsb' 7 7)
            (trailer h l ^^^ m.extractLsb' 0 7)]) = .next t ∧
      t.fstate = FState.idle ∧ t.lineEn = s.lineEn ∧ t.aux = s.aux ∧ t.countdown = s.countdown

/-- R121 (c): at least four bytes are consumed between two acceptances, the second one's trailer among them.
After an acceptance, over a run of any length and with any inputs in which the core takes at most two bytes,
no input record makes the next cycle accept. -/
def Obligations.AcceptancesAreFourBytesApart : Prop :=
  ∀ (s t u : State) (p q : Input) (ps : List Input),
    accepts s.toRegisters p = true → step (s.offer p) = .next t → takenBytes ps t.toRegisters ≤ 2 →
    runSteps ps.length (t.offerAll (ps.map .cycle)) = .next u →
    accepts u.toRegisters q = false

/-- R149, R185 (the spec's derivation): over any run of RUN cycles without reset and without an acceptance,
the countdown falls by the number of ticks and stops at zero; the outputs are as before while fewer ticks
have come than the countdown held, and off from the tick that brings it to zero. -/
def Obligations.OutputsGoOffAtExactlyTheLastTick : Prop :=
  ∀ (s : State) (ps : List Input), s.booted = true → (s.countdown = 0 → s.allOff) →
    NoAcceptance ps s.toRegisters →
    ∃ t, runSteps ps.length (s.offerAll (ps.map .cycle)) = .next t ∧
      t.countdown.toNat = s.countdown.toNat - tickCount ps ∧
      (tickCount ps < s.countdown.toNat → t.lineEn = s.lineEn ∧ t.aux = s.aux) ∧
      (s.countdown.toNat ≤ tickCount ps → t.lineEn = 0 ∧ t.aux = false)

/-- The event level (R9, D5), the source's round trip and framing recovery: in every interleaving of Tick and
Poll events with the four bytes of `encode(V)` that ends with the trailer, and from every state, V is
accepted. -/
def Obligations.FrameIsAcceptedInEveryInterleavingOfEvents : Prop :=
  ∀ (s : State) (v : Command) (es : List Event), v ≤ 0x3FFF →
    eventBytes es = [0x80, 0#1 ++ v.extractLsb' 7 7, 0#1 ++ v.extractLsb' 0 7] →
    ∃ t, runEvents (es ++ [.byte (0#1 ++ trailer (v.extractLsb' 7 7) (v.extractLsb' 0 7))]) s = .next t ∧
      t.fstate = FState.idle ∧ t.acc = v ∧ t.shows v ∧ t.countdown = 1000 ∧ t.booted = s.booted

/-- R136 (the spec's derivation, D19): the outputs a run from reset can show are exactly any subset of lines
1 to 11 with either level of the dedicated line. -/
def Obligations.ReachableOutputsAreExactlyLines1To11AndAux : Prop :=
  ∀ (le : Lines) (a : Bool),
    (∃ s, Reachable s ∧ s.lineEn = le ∧ s.aux = a) ↔ le.extractLsb' 11 4 = 0

/-! ### Encoding (30_encoding.md) -/

/-- Every well-formed operation with a bit pattern is read back from its encoding, with every operand at
every value, in every supervisor and framer state in which its row is selected. -/
def Obligations.DecodeOfEncodeIsTheOperation : Prop :=
  ∀ (i : Instr) (booted : Bool) (F : FState),
    i.wf = true → i.hasPattern = true → i.selectedIn booted F = true →
    decode booted F (encode i) = .operations [i]

/-- Each byte in each framer state, each command and each frame word has one meaning: the decoder's answer
is well formed, selected in that state, and encodes back to the same bits. -/
def Obligations.EncodeOfDecodeIsTheWord : Prop :=
  (∀ (booted : Bool) (F : FState) (c : Byte),
    (decodeByte F c).wf = true ∧ (decodeByte F c).selectedIn booted F = true ∧
    encode (decodeByte F c) = .b8 c) ∧
  (∀ v : Command, (decodeCommand v).wf = true ∧ encode (decodeCommand v) = .c16 v) ∧
  (∀ (w : BitVec 32) (is : List Instr), decodeFrameWord w = .operations is →
    ∃ h l c, is = [.frame h l c] ∧ encode (.frame h l c) = .f32 w)

/-- Words written out bit by bit from R71, R73, R77 and the opcode table decode to the operations they stand
for. -/
def Obligations.SampleWordsDecodeToTheirOperations : Prop :=
  decodeByte FState.idle 0b10000000#8 = .marker ∧
  decodeByte FState.idle 0b00110011#8 = .ignore 0x33 ∧
  decodeByte (FState.collecting 0) 0b00000010#8 = .hi 0b0000010 ∧
  decodeByte (FState.collecting 1) 0b01010101#8 = .lo 0b1010101 ∧
  decodeByte (FState.collecting 2) 0b00000011#8 = .check 0b0000011 ∧
  decodeByte (FState.collecting 1) 0b11111111#8 = .abort 0b1111111 ∧
  decodeByte (FState.collecting 3) 0b00000011#8 = .overrun 0b0000011 ∧
  decodeCommand 0b0010000111110000#16 = .cmdCruise 0x21F0 ∧
  decodeCommand 0b0001000000001111#16 = .cmdMedia 0x100F ∧
  decodeCommand 0b0000000101010101#16 = .cmdNormal 0x0155 ∧
  decodeFrameWord 0b10000000000000100101010100000011#32 = .operations [.frame 0x02 0x55 0x03]

/-- R75, R73, R76: the sender's encoding of a command is the bytes `[0x80, (V >> 7) & 0x7F, V & 0x7F,
crc3 >> 1]`; the two data bytes assemble to V for every V up to 0x3FFF, and for a larger V bits 15 and 14
are dropped. -/
def Obligations.SenderEncodingCarriesTheCommand : Prop :=
  ∀ v : Command,
    let b1 : Byte := ((v >>> 7) &&& 0x7F).setWidth 8
    let b2 : Byte := (v &&& 0x7F).setWidth 8
    let crc3 : Byte := crc7Update (crc7Update (crc7Update 0x00 0x80) b1) b2
    ∃ h l c, encodeCommand v = .frame h l c ∧
      Sys2Proof.frameBytes h l c = [0x80, b1, b2, crc3 >>> 1] ∧
      (v ≤ 0x3FFF → h.setWidth 16 <<< 7 ||| l.setWidth 16 = v) ∧
      (h.setWidth 16 <<< 7 ||| l.setWidth 16 : Command) = v &&& 0x3FFF

/-- FRAME (R73, R75 and, with the spec's decision D17, R82): the pseudo-statement expands to BYTE 80,
BYTE hh, BYTE ll, BYTE cc, in that order and before everything else that is offered, and changes nothing
else. That the expansion is a step of its own which takes no cycle is the model's choice (log 5). -/
def Obligations.FrameExpandsToItsFourBytes : Prop :=
  ∀ (h l c : DataBits) (s : State),
    exec (.frame h l c) s = .next
      { s with
        stimulus :=
          .cycle { rst := false, rxValid := true, rxData := 0x80, tick := false } ::
          .cycle { rst := false, rxValid := true, rxData := 0#1 ++ h, tick := false } ::
          .cycle { rst := false, rxValid := true, rxData := 0#1 ++ l, tick := false } ::
          .cycle { rst := false, rxValid := true, rxData := 0#1 ++ c, tick := false } :: s.stimulus }

/-! ### The core in its environment (60_exceptions.md) -/

/-- R170, R146, R182 (with the spec's decisions D3, D21), in cycles in which no byte arrives: a byte leaves
the Byte Source in exactly the RUN cycles without reset in which one is unread, the oldest first; in BOOT
and under reset every unread byte is kept; and the core does what R147 says on the pins it is shown. -/
def Obligations.UnreadBytesAreKeptUntilTaken : Prop :=
  ∀ (interval : Nat) (y : System) (o : Outside), o.arrival = none →
    ∃ z, y.step interval o = .next z ∧
      z.core.toRegisters = (coreStep y.core.toRegisters (y.pins o)).1 ∧
      ((y.pins o).rst = true ∨ y.core.booted = false → z.source = y.source) ∧
      ((y.pins o).rst = false → y.core.booted = true → z.source = y.source.tail)

/-- R165, R171 (the reference watchdog is the spec's decision D13; its interval is an OPEN parameter, and
this holds for every value of it): with the watchdog running and petted `k` cycles ago, a silent link, that
is, cycles with no reset, no unread and no arriving byte, makes it expire at the end of the interval, and
the cycle after that is a reset of the core: outputs off, all transient state gone. -/
def Obligations.StalledStreamRestartsTheCore : Prop :=
  ∀ (interval : Nat) (y : System) (os : List Outside) (o : Outside),
    y.core.booted = true → y.source = [] → y.watchdog.run = true → y.restart = false →
    y.watchdog.cnt < interval → os.length = interval - y.watchdog.cnt →
    (∀ x ∈ os, x.rst = false ∧ x.arrival = none) →
    ∃ z, System.run interval os y = .next z ∧ z.restart = true ∧
      ∃ w, z.step interval o = .next w ∧ w.core.toRegisters = Registers.reset ∧ w.watchdog.run = false
end

