-- ==== Sys2Proof/Laws/Config.lean ====
section
/-! SUPPORT. The values of the parameters that meanings read, as rewriting lemmas. -/

namespace Sys2Proof

@[simp] theorem config_startMarker : config.startMarker = 0x80 := rfl
@[simp] theorem config_crcPoly : config.crcPoly = 0x89 := rfl
@[simp] theorem config_crcSeed : config.crcSeed = 0x00 := rfl
@[simp] theorem config_crcCombine : config.crcCombine = .xor := rfl
@[simp] theorem config_cruiseFaultBit : config.cruiseFaultBit = 13 := rfl
@[simp] theorem config_cruiseMask : config.cruiseMask = 0x01F0 := rfl
@[simp] theorem config_mediaFaultBit : config.mediaFaultBit = 12 := rfl
@[simp] theorem config_mediaMask : config.mediaMask = 0x000F := rfl
@[simp] theorem config_timeoutTicks : config.timeoutTicks = 1000 := rfl
@[simp] theorem config_rxBufferDepth : config.rxBufferDepth = 8 := rfl

/-- The bound on TIMEOUT_TICKS of R6: zero is excluded (D6). -/
theorem config_timeoutTicks_pos : 1 ≤ config.timeoutTicks.toNat := by decide

/-- The widths of R6 are the widths of the types. -/
theorem config_widths :
    config.cmdWidth = 16 ∧ config.countdownWidth = 16 ∧ config.nLines = 15 ∧
      config.frameBytes = config.dataBytes + 2 := by decide

end Sys2Proof
end

