-- ==== Sys2Proof/Laws/Crc.lean ====
section
/-! SUPPORT. What the CRC Engine's definitions say, once, so that no proof unfolds the iteration. -/

namespace Sys2Proof.Machine

/-- `crc7_update` reads its operands only through their XOR. -/
theorem crc7Update_eq_shifts (crc data : Byte) : crc7Update crc data = crcShifts 8 (crc ^^^ data) := rfl

/-- The marker's CRC is 0x82 (R111). -/
theorem markerCrc_eq : markerCrc = 0x82 := by decide

theorem lowByte_getLsbD_seven (d : DataBits) : (lowByte d).getLsbD 7 = false := by
  revert d; decide

theorem highByte_getLsbD_seven (d : DataBits) : (highByte d).getLsbD 7 = true := by
  revert d; decide

theorem lowByte_ne_marker (d : DataBits) : lowByte d ≠ 0x80 := by
  revert d; decide

theorem lowByte_setWidth (d : DataBits) : (lowByte d).setWidth 7 = d := by
  revert d; decide

theorem highByte_setWidth (d : DataBits) : (highByte d).setWidth 7 = d := by
  revert d; decide

/-- A byte with its top bit clear is the LOW byte of its data bits. -/
theorem eq_lowByte {c : Byte} (h : c.getLsbD 7 = false) : c = lowByte (c.setWidth 7) := by
  revert c; decide

/-- A byte with its top bit set is the HIGH byte of its data bits. -/
theorem eq_highByte {c : Byte} (h : c.getLsbD 7 = true) : c = highByte (c.setWidth 7) := by
  revert c; decide

/-- `lowByte` loses no data bit. -/
theorem lowByte_inj {d e : DataBits} : lowByte d = lowByte e ↔ d = e := by
  constructor
  · intro h
    rw [← lowByte_setWidth d, h, lowByte_setWidth]
  · rintro rfl
    rfl

/-- A byte shifted right by one is a LOW byte: a trailer's top bit is 0 (R74). -/
theorem shift_eq_lowByte (c : Byte) : c >>> 1 = lowByte ((c >>> 1).setWidth 7) := by
  revert c; decide

/-- `crc3 >> 1` is the trailer as a byte (R74). -/
theorem frameCrc_shift (h l : DataBits) : frameCrc h l >>> 1 = lowByte (trailer h l) :=
  shift_eq_lowByte _

end Sys2Proof.Machine
end

