-- ==== Sys2Proof/Laws/Decode.lean ====
section
/-! SUPPORT. What the byte decoder answers, by the three classes of R71, so that no proof unfolds it. -/

namespace Sys2Proof

open Machine

/-- Every byte is the marker, a HIGH byte with data bits that are not all 0, or a LOW byte (R71). -/
theorem byte_cases (c : Byte) :
    c = 0x80 ∨ (∃ b : DataBits, b ≠ 0 ∧ c = highByte b) ∨ ∃ d : DataBits, c = lowByte d := by
  cases ht : c.getLsbD 7
  · exact .inr (.inr ⟨_, eq_lowByte ht⟩)
  · by_cases hb : c.setWidth 7 = 0
    · exact .inl (by rw [eq_highByte ht, hb]; decide)
    · exact .inr (.inl ⟨_, hb, eq_highByte ht⟩)

theorem highByte_ne_marker {b : DataBits} (hb : b ≠ 0) : highByte b ≠ 0x80 := by
  revert b; decide

theorem byteClass_marker : byteClass 0x80 = .marker := by decide

theorem byteClass_high {b : DataBits} (hb : b ≠ 0) : byteClass (highByte b) = .high := by
  revert b; decide

theorem byteClass_low (d : DataBits) : byteClass (lowByte d) = .low := by
  revert d; decide

theorem dataBits_highByte (b : DataBits) : dataBits (highByte b) = b := highByte_setWidth b

theorem dataBits_lowByte (d : DataBits) : dataBits (lowByte d) = d := lowByte_setWidth d

theorem decodeByte_high (F : FState) {b : DataBits} (hb : b ≠ 0) :
    decodeByte F (highByte b) = if F.inPacket then .abort b else .ignore (highByte b) := by
  rw [decodeByte, byteClass_high hb, dataBits_highByte]

theorem decodeByte_low (F : FState) (d : DataBits) :
    decodeByte F (lowByte d) =
      if F.inPacket then
        if F.length == 0 then .hi d
        else if F.length == 1 then .lo d
        else if F.length == 2 then .check d
        else .overrun d
      else .ignore (lowByte d) := by
  rw [decodeByte, byteClass_low, dataBits_lowByte]

/-- `length` is 0, 1, 2 or 3 (R22). -/
theorem length_cases (n : BitVec 2) : n = 0 ∨ n = 1 ∨ n = 2 ∨ n = 3 := by
  revert n; decide

end Sys2Proof
end

