-- ==== Sys2Proof/Laws/State.lean ====
section
/-! SUPPORT. One lemma per field per operation, each true by `rfl`: what an operation of Machine/Ops.lean or
Machine/Cycle.lean leaves in a field. -/

namespace Sys2Proof.Machine

variable (s : State)

@[simp] theorem takeByte_inPacket : s.takeByte.inPacket = s.inPacket := rfl
@[simp] theorem takeByte_length : s.takeByte.length = s.length := rfl
@[simp] theorem takeByte_acc : s.takeByte.acc = s.acc := rfl
@[simp] theorem takeByte_crc : s.takeByte.crc = s.crc := rfl
@[simp] theorem takeByte_countdown : s.takeByte.countdown = s.countdown := rfl
@[simp] theorem takeByte_lineEn : s.takeByte.lineEn = s.lineEn := rfl
@[simp] theorem takeByte_aux : s.takeByte.aux = s.aux := rfl
@[simp] theorem takeByte_booted : s.takeByte.booted = s.booted := rfl
@[simp] theorem takeByte_out : s.takeByte.out = { s.out with rxTake := true, wdtPet := true } := rfl
@[simp] theorem takeByte_stimulus : s.takeByte.stimulus = s.stimulus := rfl
@[simp] theorem takeByte_cycle : s.takeByte.cycle = s.cycle := rfl

@[simp] theorem openFrame_inPacket : s.openFrame.inPacket = true := rfl
@[simp] theorem openFrame_length : s.openFrame.length = 0 := rfl
@[simp] theorem openFrame_acc : s.openFrame.acc = 0x0000 := rfl
@[simp] theorem openFrame_crc : s.openFrame.crc = markerCrc := rfl
@[simp] theorem openFrame_countdown : s.openFrame.countdown = s.countdown := rfl
@[simp] theorem openFrame_lineEn : s.openFrame.lineEn = s.lineEn := rfl
@[simp] theorem openFrame_aux : s.openFrame.aux = s.aux := rfl
@[simp] theorem openFrame_booted : s.openFrame.booted = s.booted := rfl
@[simp] theorem openFrame_out : s.openFrame.out = s.out := rfl
@[simp] theorem openFrame_stimulus : s.openFrame.stimulus = s.stimulus := rfl
@[simp] theorem openFrame_cycle : s.openFrame.cycle = s.cycle := rfl

@[simp] theorem collect_inPacket (a : Command) (b : Byte) (n : BitVec 2) :
    (s.collect a b n).inPacket = s.inPacket := rfl
@[simp] theorem collect_length (a : Command) (b : Byte) (n : BitVec 2) : (s.collect a b n).length = n := rfl
@[simp] theorem collect_acc (a : Command) (b : Byte) (n : BitVec 2) : (s.collect a b n).acc = a := rfl
@[simp] theorem collect_crc (a : Command) (b : Byte) (n : BitVec 2) :
    (s.collect a b n).crc = crc7Update s.crc b := rfl
@[simp] theorem collect_countdown (a : Command) (b : Byte) (n : BitVec 2) :
    (s.collect a b n).countdown = s.countdown := rfl
@[simp] theorem collect_lineEn (a : Command) (b : Byte) (n : BitVec 2) : (s.collect a b n).lineEn = s.lineEn := rfl
@[simp] theorem collect_aux (a : Command) (b : Byte) (n : BitVec 2) : (s.collect a b n).aux = s.aux := rfl
@[simp] theorem collect_booted (a : Command) (b : Byte) (n : BitVec 2) : (s.collect a b n).booted = s.booted := rfl
@[simp] theorem collect_out (a : Command) (b : Byte) (n : BitVec 2) : (s.collect a b n).out = s.out := rfl
@[simp] theorem collect_stimulus (a : Command) (b : Byte) (n : BitVec 2) :
    (s.collect a b n).stimulus = s.stimulus := rfl
@[simp] theorem collect_cycle (a : Command) (b : Byte) (n : BitVec 2) : (s.collect a b n).cycle = s.cycle := rfl

@[simp] theorem closeFrame_inPacket : s.closeFrame.inPacket = false := rfl
@[simp] theorem closeFrame_length : s.closeFrame.length = 0 := rfl
@[simp] theorem closeFrame_acc : s.closeFrame.acc = s.acc := rfl
@[simp] theorem closeFrame_crc : s.closeFrame.crc = s.crc := rfl
@[simp] theorem closeFrame_countdown : s.closeFrame.countdown = s.countdown := rfl
@[simp] theorem closeFrame_lineEn : s.closeFrame.lineEn = s.lineEn := rfl
@[simp] theorem closeFrame_aux : s.closeFrame.aux = s.aux := rfl
@[simp] theorem closeFrame_booted : s.closeFrame.booted = s.booted := rfl
@[simp] theorem closeFrame_out : s.closeFrame.out = s.out := rfl
@[simp] theorem closeFrame_stimulus : s.closeFrame.stimulus = s.stimulus := rfl
@[simp] theorem closeFrame_cycle : s.closeFrame.cycle = s.cycle := rfl

@[simp] theorem outWrite_inPacket (le : Lines) (a : Bool) : (s.outWrite le a).inPacket = s.inPacket := rfl
@[simp] theorem outWrite_length (le : Lines) (a : Bool) : (s.outWrite le a).length = s.length := rfl
@[simp] theorem outWrite_acc (le : Lines) (a : Bool) : (s.outWrite le a).acc = s.acc := rfl
@[simp] theorem outWrite_crc (le : Lines) (a : Bool) : (s.outWrite le a).crc = s.crc := rfl
@[simp] theorem outWrite_countdown (le : Lines) (a : Bool) : (s.outWrite le a).countdown = s.countdown := rfl
@[simp] theorem outWrite_lineEn (le : Lines) (a : Bool) : (s.outWrite le a).lineEn = le := rfl
@[simp] theorem outWrite_aux (le : Lines) (a : Bool) : (s.outWrite le a).aux = a := rfl
@[simp] theorem outWrite_booted (le : Lines) (a : Bool) : (s.outWrite le a).booted = s.booted := rfl
@[simp] theorem outWrite_out (le : Lines) (a : Bool) : (s.outWrite le a).out = s.out := rfl
@[simp] theorem outWrite_stimulus (le : Lines) (a : Bool) : (s.outWrite le a).stimulus = s.stimulus := rfl
@[simp] theorem outWrite_cycle (le : Lines) (a : Bool) : (s.outWrite le a).cycle = s.cycle := rfl

@[simp] theorem drive_inPacket (m : Command) : (s.drive m).inPacket = s.inPacket := rfl
@[simp] theorem drive_length (m : Command) : (s.drive m).length = s.length := rfl
@[simp] theorem drive_acc (m : Command) : (s.drive m).acc = s.acc := rfl
@[simp] theorem drive_crc (m : Command) : (s.drive m).crc = s.crc := rfl
@[simp] theorem drive_countdown (m : Command) : (s.drive m).countdown = s.countdown := rfl
@[simp] theorem drive_lineEn (m : Command) : (s.drive m).lineEn = lineBits m := rfl
@[simp] theorem drive_aux (m : Command) : (s.drive m).aux = auxBit m := rfl
@[simp] theorem drive_booted (m : Command) : (s.drive m).booted = s.booted := rfl
@[simp] theorem drive_out (m : Command) : (s.drive m).out = s.out := rfl
@[simp] theorem drive_stimulus (m : Command) : (s.drive m).stimulus = s.stimulus := rfl
@[simp] theorem drive_cycle (m : Command) : (s.drive m).cycle = s.cycle := rfl

@[simp] theorem countTick_inPacket : s.countTick.inPacket = s.inPacket := rfl
@[simp] theorem countTick_length : s.countTick.length = s.length := rfl
@[simp] theorem countTick_acc : s.countTick.acc = s.acc := rfl
@[simp] theorem countTick_crc : s.countTick.crc = s.crc := rfl
@[simp] theorem countTick_countdown : s.countTick.countdown = if s.countdown != 0 then s.countdown - 1 else 0 := rfl
@[simp] theorem countTick_lineEn : s.countTick.lineEn = s.lineEn := rfl
@[simp] theorem countTick_aux : s.countTick.aux = s.aux := rfl
@[simp] theorem countTick_booted : s.countTick.booted = s.booted := rfl
@[simp] theorem countTick_out : s.countTick.out = { s.out with tickReload := true } := rfl
@[simp] theorem countTick_stimulus : s.countTick.stimulus = s.stimulus := rfl
@[simp] theorem countTick_cycle : s.countTick.cycle = s.cycle := rfl

@[simp] theorem reload_inPacket : s.reload.inPacket = s.inPacket := rfl
@[simp] theorem reload_length : s.reload.length = s.length := rfl
@[simp] theorem reload_acc : s.reload.acc = s.acc := rfl
@[simp] theorem reload_crc : s.reload.crc = s.crc := rfl
@[simp] theorem reload_countdown : s.reload.countdown = config.timeoutTicks := rfl
@[simp] theorem reload_lineEn : s.reload.lineEn = s.lineEn := rfl
@[simp] theorem reload_aux : s.reload.aux = s.aux := rfl
@[simp] theorem reload_booted : s.reload.booted = s.booted := rfl
@[simp] theorem reload_out : s.reload.out = s.out := rfl
@[simp] theorem reload_stimulus : s.reload.stimulus = s.stimulus := rfl
@[simp] theorem reload_cycle : s.reload.cycle = s.cycle := rfl

@[simp] theorem armWatchdog_inPacket : s.armWatchdog.inPacket = s.inPacket := rfl
@[simp] theorem armWatchdog_length : s.armWatchdog.length = s.length := rfl
@[simp] theorem armWatchdog_acc : s.armWatchdog.acc = s.acc := rfl
@[simp] theorem armWatchdog_crc : s.armWatchdog.crc = s.crc := rfl
@[simp] theorem armWatchdog_countdown : s.armWatchdog.countdown = s.countdown := rfl
@[simp] theorem armWatchdog_lineEn : s.armWatchdog.lineEn = s.lineEn := rfl
@[simp] theorem armWatchdog_aux : s.armWatchdog.aux = s.aux := rfl
@[simp] theorem armWatchdog_booted : s.armWatchdog.booted = true := rfl
@[simp] theorem armWatchdog_out : s.armWatchdog.out = { s.out with wdtArm := true } := rfl
@[simp] theorem armWatchdog_stimulus : s.armWatchdog.stimulus = s.stimulus := rfl
@[simp] theorem armWatchdog_cycle : s.armWatchdog.cycle = s.cycle := rfl

@[simp] theorem enterReset_inPacket : s.enterReset.inPacket = false := rfl
@[simp] theorem enterReset_length : s.enterReset.length = 0 := rfl
@[simp] theorem enterReset_acc : s.enterReset.acc = 0x0000 := rfl
@[simp] theorem enterReset_crc : s.enterReset.crc = 0x00 := rfl
@[simp] theorem enterReset_countdown : s.enterReset.countdown = config.timeoutTicks := rfl
@[simp] theorem enterReset_lineEn : s.enterReset.lineEn = 0 := rfl
@[simp] theorem enterReset_aux : s.enterReset.aux = false := rfl
@[simp] theorem enterReset_booted : s.enterReset.booted = false := rfl
@[simp] theorem enterReset_out : s.enterReset.out = Output.quiet := rfl
@[simp] theorem enterReset_stimulus : s.enterReset.stimulus = s.stimulus := rfl
@[simp] theorem enterReset_cycle : s.enterReset.cycle = s.cycle := rfl

@[simp] theorem beginCycle_inPacket (p : Input) : (s.beginCycle p).inPacket = s.inPacket := rfl
@[simp] theorem beginCycle_length (p : Input) : (s.beginCycle p).length = s.length := rfl
@[simp] theorem beginCycle_acc (p : Input) : (s.beginCycle p).acc = s.acc := rfl
@[simp] theorem beginCycle_crc (p : Input) : (s.beginCycle p).crc = s.crc := rfl
@[simp] theorem beginCycle_countdown (p : Input) : (s.beginCycle p).countdown = s.countdown := rfl
@[simp] theorem beginCycle_lineEn (p : Input) : (s.beginCycle p).lineEn = s.lineEn := rfl
@[simp] theorem beginCycle_aux (p : Input) : (s.beginCycle p).aux = s.aux := rfl
@[simp] theorem beginCycle_booted (p : Input) : (s.beginCycle p).booted = s.booted := rfl
@[simp] theorem beginCycle_out (p : Input) :
    (s.beginCycle p).out = { Output.quiet with idle := !p.rst && s.booted && !p.rxValid } := rfl
@[simp] theorem beginCycle_stimulus (p : Input) : (s.beginCycle p).stimulus = s.stimulus := rfl
@[simp] theorem beginCycle_cycle (p : Input) : (s.beginCycle p).cycle = s.cycle + 1 := rfl

@[simp] theorem popStimulus_inPacket : s.popStimulus.inPacket = s.inPacket := rfl
@[simp] theorem popStimulus_length : s.popStimulus.length = s.length := rfl
@[simp] theorem popStimulus_acc : s.popStimulus.acc = s.acc := rfl
@[simp] theorem popStimulus_crc : s.popStimulus.crc = s.crc := rfl
@[simp] theorem popStimulus_countdown : s.popStimulus.countdown = s.countdown := rfl
@[simp] theorem popStimulus_lineEn : s.popStimulus.lineEn = s.lineEn := rfl
@[simp] theorem popStimulus_aux : s.popStimulus.aux = s.aux := rfl
@[simp] theorem popStimulus_booted : s.popStimulus.booted = s.booted := rfl
@[simp] theorem popStimulus_out : s.popStimulus.out = s.out := rfl
@[simp] theorem popStimulus_stimulus : s.popStimulus.stimulus = s.stimulus.tail := rfl
@[simp] theorem popStimulus_cycle : s.popStimulus.cycle = s.cycle := rfl

@[simp] theorem offer_inPacket (p : Input) : (s.offer p).inPacket = s.inPacket := rfl
@[simp] theorem offer_length (p : Input) : (s.offer p).length = s.length := rfl
@[simp] theorem offer_acc (p : Input) : (s.offer p).acc = s.acc := rfl
@[simp] theorem offer_crc (p : Input) : (s.offer p).crc = s.crc := rfl
@[simp] theorem offer_countdown (p : Input) : (s.offer p).countdown = s.countdown := rfl
@[simp] theorem offer_lineEn (p : Input) : (s.offer p).lineEn = s.lineEn := rfl
@[simp] theorem offer_aux (p : Input) : (s.offer p).aux = s.aux := rfl
@[simp] theorem offer_booted (p : Input) : (s.offer p).booted = s.booted := rfl
@[simp] theorem offer_out (p : Input) : (s.offer p).out = s.out := rfl
@[simp] theorem offer_stimulus (p : Input) : (s.offer p).stimulus = .cycle p :: s.stimulus := rfl
@[simp] theorem offer_cycle (p : Input) : (s.offer p).cycle = s.cycle := rfl

@[simp] theorem offerAll_inPacket (xs : List Stimulus) : (s.offerAll xs).inPacket = s.inPacket := rfl
@[simp] theorem offerAll_length (xs : List Stimulus) : (s.offerAll xs).length = s.length := rfl
@[simp] theorem offerAll_acc (xs : List Stimulus) : (s.offerAll xs).acc = s.acc := rfl
@[simp] theorem offerAll_crc (xs : List Stimulus) : (s.offerAll xs).crc = s.crc := rfl
@[simp] theorem offerAll_countdown (xs : List Stimulus) : (s.offerAll xs).countdown = s.countdown := rfl
@[simp] theorem offerAll_lineEn (xs : List Stimulus) : (s.offerAll xs).lineEn = s.lineEn := rfl
@[simp] theorem offerAll_aux (xs : List Stimulus) : (s.offerAll xs).aux = s.aux := rfl
@[simp] theorem offerAll_booted (xs : List Stimulus) : (s.offerAll xs).booted = s.booted := rfl
@[simp] theorem offerAll_out (xs : List Stimulus) : (s.offerAll xs).out = s.out := rfl
@[simp] theorem offerAll_stimulus (xs : List Stimulus) : (s.offerAll xs).stimulus = xs ++ s.stimulus := rfl
@[simp] theorem offerAll_cycle (xs : List Stimulus) : (s.offerAll xs).cycle = s.cycle := rfl

end Sys2Proof.Machine
end

