-- ==== Sys2Proof/Laws/Ops.lean ====
section
/-! SUPPORT. One lemma per shared operation that says everything it can do. -/

namespace Sys2Proof.Machine

@[simp] theorem andThen_next (s : State) (f : State → Result) : andThen (.next s) f = f s := rfl

/-- An `andThen` that answers a next state ran both parts. -/
theorem andThen_eq_next {r : Result} {f : State → Result} {t : State} (h : andThen r f = .next t) :
    ∃ s, r = .next s ∧ f s = .next t := by
  cases r with
  | next s => exact ⟨s, rfl, h⟩
  | fault e => cases h
  | refused e => cases h

/-- Invoking the Output Policy drives the outputs with some masked command and does nothing else. -/
theorem applyCommand_cases (v : Command) (s : State) :
    (cruiseFault v = true ∧ applyCommand v s = .next (s.drive (v &&& config.cruiseMask))) ∨
    (cruiseFault v = false ∧ mediaFault v = true ∧
      applyCommand v s = .next (s.drive (v &&& config.mediaMask))) ∨
    (cruiseFault v = false ∧ mediaFault v = false ∧ applyCommand v s = .next (s.drive v)) := by
  unfold applyCommand execCmdCruise execCmdMedia execCmdNormal
  cases hc : cruiseFault v <;> cases hm : mediaFault v <;> simp

/-- The ACCEPT action drives the outputs and reloads the countdown. -/
theorem acceptCommand_next (v : Command) (s : State) :
    ∃ m, applyCommand v s = .next (s.drive m) ∧ acceptCommand v s = .next (s.drive m).reload := by
  rcases applyCommand_cases v s with ⟨-, h⟩ | ⟨-, -, h⟩ | ⟨-, -, h⟩ <;>
    exact ⟨_, h, by rw [acceptCommand, h]; rfl⟩

/-- CHECK closes the frame; with a matching trailer it then takes the ACCEPT action. -/
theorem execCheck_cases (c : DataBits) (s : State) :
    (trailerMatches s.crc c = true ∧ execCheck c s = acceptCommand s.acc s.takeByte.closeFrame) ∨
    (trailerMatches s.crc c = false ∧ execCheck c s = .next s.takeByte.closeFrame) := by
  cases h : trailerMatches s.crc c <;> simp [execCheck, h]

/-- The Poll: outputs off at zero, nothing otherwise. -/
theorem execPoll_cases (s : State) :
    (s.countdown = 0 ∧ execPoll s = .next (s.outWrite 0 false)) ∨
    (s.countdown ≠ 0 ∧ execPoll s = .next s) := by
  by_cases h : s.countdown = 0
  · exact .inl ⟨h, by simp [execPoll, forcedOff, h]; rfl⟩
  · exact .inr ⟨h, by simp [execPoll, forcedOff]; exact fun h' => absurd h' h⟩

/-- Running operations one list after the other. -/
theorem runOps_append (is js : List Instr) (s : State) :
    runOps (is ++ js) s = andThen (runOps is s) (runOps js) := by
  induction is generalizing s with
  | nil => rfl
  | cons i is ih =>
    show andThen (exec i s) (runOps (is ++ js)) = andThen (andThen (exec i s) (runOps is)) (runOps js)
    cases exec i s with
    | next t => exact ih t
    | fault e => rfl
    | refused e => rfl

/-- A step on an offered cycle is that cycle, with the rest of the stimulus untouched. -/
theorem step_offer (s : State) (p : Input) : step (s.offer p) = runCycle p s := rfl

/-- A step on a FRAME item is its expansion. -/
theorem step_frame (s : State) (h l c : DataBits) :
    step (s.offerAll [.frame h l c]) = exec (.frame h l c) s := rfl

end Sys2Proof.Machine
end

