-- ==== Sys2Proof/Laws/PerInstr.lean ====
section
/-! SUPPORT. The per-instruction family EncodingFits: every well-formed operation's encoding fits the
`match` and `mask` of its row in spec/opcode_table.json (R83). -/

namespace Sys2Proof.Laws.EncodingFits

open Sys2Proof Sys2Proof.Machine

/-- The encoding of `i` fits its row. -/
def Statement (i : Instr) : Prop := i.wf = true → i.row.fits (encode i) = true

theorem marker : Statement .marker := fun _ => by decide

theorem ignore (b : Byte) : Statement (.ignore b) := fun _ => by
  simp [Instr.row, TableRow.fits]

theorem abort (b : DataBits) : Statement (.abort b) := fun _ => by revert b; decide

theorem hi (h : DataBits) : Statement (.hi h) := fun _ => by revert h; decide

theorem lo (l : DataBits) : Statement (.lo l) := fun _ => by revert l; decide

theorem check (c : DataBits) : Statement (.check c) := fun _ => by revert c; decide

theorem overrun (b : DataBits) : Statement (.overrun b) := fun _ => by revert b; decide

/-- A command in a class fits a row with the class's mask and pattern. -/
theorem command_fits {v mask pattern : Command} (h : Command.inClass v mask pattern = true) :
    (v.toNat &&& mask.toNat == pattern.toNat) = true := by
  have h' : v &&& mask = pattern := by simpa [Command.inClass] using h
  rw [← h', BitVec.toNat_and]
  exact beq_self_eq_true _

theorem cmdCruise (v : Command) : Statement (.cmdCruise v) := fun h => command_fits h

theorem cmdMedia (v : Command) : Statement (.cmdMedia v) := fun h => command_fits h

theorem cmdNormal (v : Command) : Statement (.cmdNormal v) := fun h => command_fits h

/-- The fixed bits of a frame word. -/
theorem frameWord_mask (h l c : DataBits) : frameWord h l c &&& 0xFF808080#32 = 0x80000000#32 := by
  have hx : ∀ d : DataBits, lowByte d &&& 0x80#8 = 0x00#8 := by decide
  have e : (0xFF808080#32 : BitVec 32) = 0xFF#8 ++ 0x80#8 ++ 0x80#8 ++ 0x80#8 := by decide
  rw [e, frameWord]
  show (config.startMarker ++ lowByte h ++ lowByte l ++ lowByte c &&&
    (0xFF#8 ++ 0x80#8 ++ 0x80#8 ++ 0x80#8) : BitVec (8 + 8 + 8 + 8)) = _
  rw [BitVec.and_append, BitVec.and_append, BitVec.and_append, hx, hx, hx]
  decide

theorem frame (h l c : DataBits) : Statement (.frame h l c) := fun _ => by
  have e := congrArg BitVec.toNat (frameWord_mask h l c)
  rw [BitVec.toNat_and] at e
  show ((frameWord h l c).toNat &&& 0xFF808080 == 0x80000000) = true
  rw [show (0xFF808080 : Nat) = (0xFF808080#32).toNat from rfl, e]
  rfl

theorem tick : Statement .tick := fun _ => by decide

theorem poll : Statement .poll := fun _ => by decide

theorem boot : Statement .boot := fun _ => by decide

theorem reset : Statement .reset := fun _ => by decide

end Sys2Proof.Laws.EncodingFits
end

