-- ==== Sys2Proof/Tests/Slice0.lean ====
section
/-! SUPPORT. The model's own tests. Every expected value is copied from spec/95_test_vectors.md, from the
encodings of spec/30_encoding.md, or from the rule a test names; none is the model's answer. Then, for every
statement that has hypotheses, a witness that meets them. -/

namespace Sys2Proof.Tests

open Sys2Proof Sys2Proof.Machine

/-! ### Helpers -/

/-- A state of the core in the notation of 95_test_vectors.md: `fstate, acc, crc, countdown, LE, aux,
booted`. -/
def regs (F : FState) (acc : Command) (crc : Byte) (countdown : Ticks) (le : Lines) (aux booted : Bool) :
    Registers :=
  { inPacket := F.inPacket, length := F.length, acc := acc, crc := crc, countdown := countdown
    lineEn := le, aux := aux, booted := booted }

/-- The machine with those registers and nothing listed. -/
def at_ (S : Registers) : State := { State.reset with toRegisters := S }

def idle : FState := FState.idle
def c0 : FState := FState.collecting 0
def c1 : FState := FState.collecting 1
def c2 : FState := FState.collecting 2

/-- An input record `rst, rx_valid, rx_data, tick`. -/
def input (rst rxValid : Bool) (rxData : Byte) (tick : Bool) : Input :=
  { rst := rst, rxValid := rxValid, rxData := rxData, tick := tick }

/-- Combinational outputs `rx_take, wdt_arm, wdt_pet, tick_reload, idle`. -/
def outs (rxTake wdtArm wdtPet tickReload idle : Bool) : Output :=
  { rxTake := rxTake, wdtArm := wdtArm, wdtPet := wdtPet, tickReload := tickReload, idle := idle }

/-- The next state, if there is one. -/
def after : Result → Option State
  | .next s => some s
  | .fault e => nomatch e
  | .refused _ => none

/-- Registers and outputs after one step of a cycle with the given inputs. -/
def cycle (S : Registers) (p : Input) : Option (Registers × Output) :=
  (after (step ((at_ S).offer p))).map fun t => (t.toRegisters, t.out)

/-- RUN after `BOOT` (Part 3): `IDLE, 0000, 00, 1000, 0000, 0, 1`. -/
def booted : Registers := regs idle 0x0000 0x00 1000 0x0000 false true

/-- C2 with the frame for 0x0155 all but done. -/
def nearly : Registers := regs c2 0x0155 0x06 500 0x0000 false true

/-- RUN in communication loss: the countdown at zero, all outputs off. -/
def timedOut : Registers := regs idle 0x0155 0x06 0 0x0000 false true

/-! ### WellFormed: each check refuses an ill-formed term -/

theorem test_wf_refuses_ignore_of_the_marker : (Instr.ignore 0x80).wf = false := by decide
theorem test_wf_refuses_abort_of_the_marker : (Instr.abort 0).wf = false := by decide
theorem test_wf_refuses_cruise_without_bit_13 : (Instr.cmdCruise 0x1FFF).wf = false := by decide
theorem test_wf_refuses_media_with_bit_13 : (Instr.cmdMedia 0x3000).wf = false := by decide
theorem test_wf_refuses_media_without_bit_12 : (Instr.cmdMedia 0x0FFF).wf = false := by decide
theorem test_wf_refuses_normal_with_bit_12 : (Instr.cmdNormal 0x1000).wf = false := by decide
theorem test_wf_takes_the_rest :
    (Instr.ignore 0x81).wf && (Instr.abort 1).wf && (Instr.cmdCruise 0x3000).wf &&
      (Instr.cmdMedia 0x1000).wf && (Instr.cmdNormal 0xC001).wf && (Instr.frame 0x02 0x55 0x04).wf = true := by
  decide

/-! ### Decode: words written out from R71, R73, R77 and the opcode table -/

theorem test_decode_marker : decodeByte c1 0b10000000 = .marker := by decide
theorem test_decode_ignore : decodeByte idle 0b01001100 = .ignore 0x4C := by decide
theorem test_decode_ignore_high : decodeByte idle 0b11111111 = .ignore 0xFF := by decide
theorem test_decode_hi : decodeByte c0 0b01000000 = .hi 0b1000000 := by decide
theorem test_decode_lo : decodeByte c1 0b01010101 = .lo 0b1010101 := by decide
theorem test_decode_check : decodeByte c2 0b00000011 = .check 0b0000011 := by decide
theorem test_decode_abort : decodeByte c2 0b10000011 = .abort 0b0000011 := by decide
theorem test_decode_overrun : decodeByte (FState.collecting 3) 0b00000011 = .overrun 0b0000011 := by decide
theorem test_decode_cruise : decodeCommand 0b0011000000001111 = .cmdCruise 0x300F := by decide
theorem test_decode_media : decodeCommand 0b0001000000000001 = .cmdMedia 0x1001 := by decide
theorem test_decode_normal : decodeCommand 0b1100000000000001 = .cmdNormal 0xC001 := by decide
theorem test_decode_frame :
    decodeFrameWord 0b10000000000000100101010100000011 = .operations [.frame 0x02 0x55 0x03] := by decide
theorem test_decode_frame_bytes :
    decodeFrameBytes [0x80, 0x00, 0x01, 0x4C] = .operations [.frame 0x00 0x01 0x4C] := by decide

/-- The pin rows, and their order in one cycle (R169). -/
theorem test_decode_reset : decodeCycle true c2 (input true true 0x03 true) = [.reset] := by decide
theorem test_decode_boot : decodeCycle false idle (input false true 0x80 true) = [.boot] := by decide
theorem test_decode_tick_poll_byte :
    decodeCycle true c2 (input false true 0x03 true) = [.tick, .poll, .check 0x03] := by decide
theorem test_decode_poll : decodeCycle true idle (input false false 0x80 false) = [.poll] := by decide

theorem test_decode_rejects_no_marker : decodeFrameWord 0x81025503 = .rejected .noStartMarker := by decide
theorem test_decode_rejects_top_bit_1 : decodeFrameWord 0x80825503 = .rejected (.topBitSet 1) := by decide
theorem test_decode_rejects_top_bit_2 : decodeFrameWord 0x8002D503 = .rejected (.topBitSet 2) := by decide
theorem test_decode_rejects_top_bit_3 : decodeFrameWord 0x80025583 = .rejected (.topBitSet 3) := by decide
theorem test_decode_rejects_three_bytes :
    decodeFrameBytes [0x80, 0x02, 0x55] = .rejected (.noSuchLength 3) := by decide

/-- A row of each width, as the host numbers its bits. -/
theorem test_decodeTableWord :
    decodeTableWord 8 0x80 = some .marker ∧ decodeTableWord 8 0x7F = some (.hi 0x7F) ∧
    decodeTableWord 8 0x81 = some (.abort 1) ∧ decodeTableWord 16 0x2000 = some (.cmdCruise 0x2000) ∧
    decodeTableWord 16 0x1000 = some (.cmdMedia 0x1000) ∧ decodeTableWord 16 0 = some (.cmdNormal 0) ∧
    decodeTableWord 32 0x80000000 = some (.frame 0 0 0) ∧ decodeTableWord 0 0 = some .poll ∧
    decodeTableWord 24 0x800000 = none := by decide

/-! ### CRC Engine (95_test_vectors.md 2.1, 2.2; R104) -/

theorem test_crc_seed : crc7Update 0x00 0x80 = 0x82 := by decide
theorem test_crc_common_bits : crc7Update 0x82 0x7F = 0xD6 ∧ crc7Update 0x3C 0x3C = 0x00 := by decide
/-- The other reading of C1 is expressible, and is not this machine's. -/
theorem test_crc_or_reading :
    crc7UpdateWith .or 0x82 0x7F = 0xF2 ∧ crc7UpdateWith .or 0x3C 0x3C = 0x8E := by decide
/-- R104, the outside check value over "123456789". -/
theorem test_crc_check_value :
    [0x31, 0x32, 0x33, 0x34, 0x35, 0x36, 0x37, 0x38, 0x39].foldl crc7Update 0x00 = 0xEA := by decide +kernel
theorem test_crc_trailers :
    trailer 0x00 0x01 = 0x4C ∧ trailer 0x02 0x55 = 0x03 ∧ trailer 0x7F 0x7F = 0x32 ∧
      trailer 0x40 0x03 = 0x33 := by decide +kernel

/-! ### Single cycles (95_test_vectors.md 2.3, 2.5) -/

theorem test_marker_restarts :
    cycle (regs c1 0x0280 0xFC 500 0x00AA true true) (input false true 0x80 false) =
      some (regs c0 0x0000 0x82 500 0x00AA true true, outs true false true false false) := by decide
theorem test_ignore_row18 :
    cycle booted (input false true 0x42 false) = some (booted, outs true false true false false) := by decide
theorem test_ignore_a_matching_trailer_in_idle :
    cycle (regs idle 0x0001 0x98 7 0 false true) (input false true 0x4C false) =
      some (regs idle 0x0001 0x98 7 0 false true, outs true false true false false) := by decide
theorem test_hi_stores_and_does_not_or :
    cycle (regs c0 0x1234 0x82 500 0 false true) (input false true 0x05 false) =
      some (regs c1 0x0280 0xFC 500 0 false true, outs true false true false false) := by decide
theorem test_hi_row17 :
    cycle (regs c0 0x0000 0x82 2 0x0001 false true) (input false true 0x05 true) =
      some (regs c1 0x0280 0xFC 1 0x0001 false true, outs true false true true false) := by decide
theorem test_lo_all_ones :
    cycle (regs c1 0x3F80 0xD6 500 0 false true) (input false true 0x7F false) =
      some (regs c2 0x3FFF 0x64 500 0 false true, outs true false true false false) := by decide
theorem test_lo_ors :
    cycle (regs c1 0x0003 0xA6 500 0 false true) (input false true 0x04 false) =
      some (regs c2 0x0007 0xC2 500 0 false true, outs true false true false false) := by decide
theorem test_check_row11_acceptance_wins :
    cycle (regs c2 0x0155 0x06 1 0x0007 true true) (input false true 0x03 true) =
      some (regs idle 0x0155 0x06 1000 0x00AA true true, outs true false true true false) := by decide
theorem test_check_row13_crcfail_at_the_last_tick :
    cycle (regs c2 0x0155 0x06 1 0x0007 true true) (input false true 0x02 true) =
      some (regs idle 0x0155 0x06 0 0x0000 false true, outs true false true true false) := by decide
theorem test_abort_row16 :
    cycle (regs c1 0x0280 0xFC 500 0x00AA true true) (input false true 0xFF false) =
      some (regs idle 0x0280 0xFC 500 0x00AA true true, outs true false true false false) := by decide
theorem test_abort_although_the_data_bits_match :
    cycle nearly (input false true 0x83 false) =
      some (regs idle 0x0155 0x06 500 0x0000 false true, outs true false true false false) := by decide
theorem test_overrun_is_not_accepted :
    cycle (regs (FState.collecting 3) 0x0155 0x06 500 0 false true) (input false true 0x03 false) =
      some (regs idle 0x0155 0x06 500 0 false true, outs true false true false false) := by decide
theorem test_cruise_row15 :
    cycle (regs c2 0x2003 0x66 500 0x03FF false true) (input false true 0x33 false) =
      some (regs idle 0x2003 0x66 1000 0x0000 false true, outs true false true false false) := by decide
theorem test_cruise_beats_media :
    cycle (regs c2 0x3FFF 0x64 500 0 true true) (input false true 0x32 false) =
      some (regs idle 0x3FFF 0x64 1000 0x00F8 false true, outs true false true false false) := by decide
theorem test_media_frame_100F :
    cycle (regs c2 0x100F 0x80 500 0x00F8 false true) (input false true 0x40 false) =
      some (regs idle 0x100F 0x80 1000 0x0007 true true, outs true false true false false) := by decide
/-- 95_test_vectors.md 2.4, a command no frame carries. -/
theorem test_normal_CFFF :
    (after (exec (.cmdNormal 0xCFFF) (at_ booted))).map (fun t => (t.lineEn, t.aux)) =
      some (0x67FF, true) := by decide
theorem test_tick_row4 :
    cycle booted (input false false 0x80 true) =
      some (regs idle 0x0000 0x00 999 0x0000 false true, outs false false false true true) := by decide
theorem test_tick_saturates_row6 :
    cycle (regs idle 0x0155 0x06 0 0 false true) (input false false 0x00 true) =
      some (regs idle 0x0155 0x06 0 0 false true, outs false false false true true) := by decide
theorem test_poll_row8_is_level_sensitive :
    cycle (regs idle 0x0155 0x06 0 0x00AA true true) (input false false 0x00 false) =
      some (regs idle 0x0155 0x06 0 0x0000 false true, outs false false false false true) := by decide
theorem test_boot_row2 :
    cycle Registers.reset (input false true 0x80 true) = some (booted, outs false true false false false) := by
  decide
theorem test_reset_row1 :
    cycle (regs c2 0x0155 0x06 7 0x00AA true true) (input true true 0x03 true) =
      some (Registers.reset, outs false false false false false) := by decide
/-- R82: `FRAME 0x0155` is `80 02 55 03`. -/
theorem test_frame_expands :
    (after (step ((at_ booted).offerAll [Stimulus.ofCommand 0x0155]))).map (fun t => t.stimulus) =
      some (Stimulus.bytes [0x80, 0x02, 0x55, 0x03]) := by decide +kernel

/-- Right after reset, a word placed by `withFetchWord` is what the step runs. -/
theorem test_withFetchWord_byte :
    (after (step (State.reset.withFetchWord 8 0x7F))).map (fun t => (t.acc, t.length)) =
      some (0x3F80, 1) := by decide
theorem test_withFetchWord_command :
    (after (step (State.reset.withFetchWord 16 0x21F0))).map (fun t => (t.lineEn, t.countdown)) =
      some (0x00F8, 1000) := by decide
theorem test_withFetchWord_frame :
    (after (step (State.reset.withFetchWord 32 0x80025503))).map (fun t => t.stimulus) =
      some (Stimulus.bytes [0x80, 0x02, 0x55, 0x03]) := by decide

/-! ### Pads and labels -/

/-- 95_test_vectors.md 2.4, the row of 0x0155: lines 2, 4, 6 and 8 driven low. -/
theorem test_pads_of_00AA :
    (List.range 16).filter (fun k => ((at_ { booted with lineEn := 0x00AA }).pad k) == PadLevel.low) =
      [2, 4, 6, 8] := by decide
/-- Row 11 of 2.5. -/
theorem test_labels_row11 :
    cycleLabels (regs c2 0x0155 0x06 1 0x0007 true true) (input false true 0x03 true) =
      [.timeout, .accept] := by decide

/-! ### Witnesses: the hypotheses of each statement are met -/

theorem witness_IgnoreChangesNoRegister :
    idle.inPacket = false ∧ (0x33 : Byte) ≠ 0x80 ∧ (0xFF : Byte) ≠ 0x80 ∧
      booted.framer.inPacket = false := by decide

theorem witness_HiStoresTheHighPart :
    (regs c0 0x0000 0x82 1000 0 false true).framer.inPacket = true ∧
      (regs c0 0x0000 0x82 1000 0 false true).framer.length = 0 := by decide

theorem witness_LoOrsInTheLowPart :
    (at_ (regs c1 0x3F80 0xD6 500 0 false true)).acc = (0x7F : DataBits).setWidth 16 <<< 7 ∧
    (∃ t, exec (.lo 0x7F) (at_ (regs c1 0x3F80 0xD6 500 0 false true)) = .next t) ∧
    (regs c1 0x3F80 0xD6 500 0 false true).framer.inPacket = true ∧
    (regs c1 0x3F80 0xD6 500 0 false true).framer.length = 1 :=
  ⟨by decide, ⟨_, rfl⟩, by decide, by decide⟩

/-- From reset: the arm cycle, a marker, a high part. -/
def firstBytes : List Stimulus := [.cycle (.nop 0x00), .cycle (.byte 0x80), .cycle (.byte 0x7F)]

/-- States of C0 and of C1 that a run from reset reaches. -/
theorem witness_reachable_C0_and_C1 :
    (∃ s, Reachable s ∧ s.fstate = FState.collecting 0) ∧
    (∃ s, Reachable s ∧ s.fstate = FState.collecting 1) :=
  ⟨⟨_, .step (.step (.reset firstBytes) rfl) rfl, rfl⟩,
    ⟨_, .step (.step (.step (.reset firstBytes) rfl) rfl) rfl, rfl⟩⟩

/-- Both sides of the comparison are taken. -/
theorem witness_CheckComparesTheTrailerAndReturnsToIdle :
    nearly.framer.inPacket = true ∧ nearly.framer.length = 2 ∧ nearly.framer.crc >>> 1 = 0#1 ++ 0x03#7 ∧
      nearly.framer.crc >>> 1 ≠ 0#1 ++ 0x02#7 := by decide

theorem witness_OnlyAcceptanceDrivesOutputsOrRaisesTheCountdown :
    (accepts (at_ nearly).toRegisters (input false true 0x03 false) = true ∧
      accepts (at_ { nearly with countdown := 1000 }).toRegisters (input false true 0x03 true) = true ∧
      (at_ nearly).acc = (at_ { nearly with countdown := 1000 }).acc) ∧
    ((input false true 0x02 true).rst = false ∧
      accepts (at_ nearly).toRegisters (input false true 0x02 true) = false) := by decide

theorem witness_OnlyAcceptance_both_steps_answer :
    (∃ t, step ((at_ nearly).offer (input false true 0x03 false)) = .next t) ∧
    (∃ t, step ((at_ { nearly with countdown := 1000 }).offer (input false true 0x03 true)) = .next t) :=
  ⟨⟨_, rfl⟩, ⟨_, rfl⟩⟩

theorem witness_CrcMismatchWritesNoOutputAndNoCountdown :
    (at_ nearly).crc >>> 1 ≠ 0#1 ++ 0x02#7 ∧
    (nearly.framer.inPacket = true ∧ nearly.framer.length = 2 ∧ nearly.framer.crc >>> 1 ≠ 0#1 ++ 0x02#7) ∧
    ((at_ nearly).booted = true ∧ ((at_ nearly).countdown = 0 → (at_ nearly).allOff) ∧
      (at_ timedOut).booted = true ∧
      ((at_ timedOut).countdown = 0 → (at_ timedOut).allOff) ∧
      (at_ timedOut).countdown = 0 ∧ (0x4D : Byte) ≠ 0x4C) :=
  ⟨by decide, by decide, by decide, fun h => absurd h (by decide), by decide, fun _ => ⟨rfl, rfl⟩, by decide,
    by decide⟩

theorem witness_AbortDiscardsTheFrameSilently :
    c2.inPacket = true ∧ (0x7F : DataBits) ≠ 0 ∧ (0x01 : DataBits) ≠ 0 ∧ nearly.framer.inPacket = true := by
  decide

theorem witness_FramerTransitionTable :
    (input false false 0x80 true).rst = false ∧ (input false true 0x80 true).rst = false ∧
      (at_ nearly).booted = true ∧ (input false false 0x80 true).rxValid = false ∧
      (input false true 0x80 true).rxValid = true := by decide

theorem witness_CruiseFaultLetsOnlyLines4To8Through :
    (0x3FFF : Command).getLsbD 13 = true ∧ (0x2000 : Command).getLsbD 13 = true := by decide

theorem witness_MediaFaultLetsOnlyLines1To3AndAuxThrough :
    (0x1FFF : Command).getLsbD 13 = false ∧ (0x1FFF : Command).getLsbD 12 = true := by decide

theorem witness_NormalCommandDrivesEveryLineByItsBit :
    (0xCFFF : Command).getLsbD 13 = false ∧ (0xCFFF : Command).getLsbD 12 = false ∧
      (0x0FFF : Command).getLsbD 13 = false ∧ (0x0FFF : Command).getLsbD 12 = false ∧
      (0x0FFF : Command).extractLsb' 14 2 = 0 := by decide

theorem witness_BootArmsTheWatchdogOnceAndIgnoresInputs :
    ((input false true 0x80 true).rst = false ∧ State.reset.booted = false) ∧
      (at_ booted).booted = true := by decide

theorem witness_ResetBeatsEverything : (input true true 0x03 true).rst = true := by decide

theorem witness_AcceptanceBeatsTheTickAndThePollOfItsCycle :
    (at_ { nearly with countdown := 1 }).booted = true ∧
      (at_ { nearly with countdown := 1 }).fstate = FState.collecting 2 ∧
      (at_ { nearly with countdown := 1 }).crc >>> 1 = 0#1 ++ 0x03#7 := by decide

/-- The three kinds of cycle, a listed item, a FRAME item, and the free record of an empty stimulus. -/
theorem witness_StepRunsTheDecodedOperations :
    ((at_ booted).offerAll [.frame 0x02 0x55 0x03]).fetch = .frame 0x02 0x55 0x03 ∧
    (((at_ nearly).offer (input false true 0x03 true)).fetch = .cycle (input false true 0x03 true) ∧
      (input false true 0x03 true).rst = false ∧ ((at_ nearly).offer (input false true 0x03 true)).booted = true) ∧
    ((State.reset.offer (input false true 0x80 true)).fetch = .cycle (input false true 0x80 true) ∧
      (State.reset.offer (input false true 0x80 true)).booted = false) ∧
    (((at_ nearly).offer (input true false 0 false)).fetch = .cycle (input true false 0 false) ∧
      (input true false 0 false).rst = true) ∧
    ((at_ nearly).offer (input false true 0x03 true)).stimulus = .cycle (input false true 0x03 true) :: [] := by
  decide

theorem witness_StepRunsTheDecodedOperations_free :
    State.reset.fetch = .cycle (Config.environment 0) := rfl

theorem inv_of_nearly : nearly.Inv :=
  ⟨⟨.inr (.inr (.inr (by decide))), by decide, by decide, by decide, by decide⟩, fun h => absurd h (by decide)⟩

/-- All three clauses: a running countdown, an exhausted one (the state of row 8, which no run reaches), and
the invariant. -/
theorem witness_QuietCyclesChangeNoRegister :
    ((at_ nearly).booted = true ∧ (at_ nearly).countdown ≠ 0 ∧ (at_ nearly).toRegisters.Inv) ∧
    ((at_ (regs idle 0x0155 0x06 0 0x00AA true true)).booted = true ∧
      (at_ (regs idle 0x0155 0x06 0 0x00AA true true)).countdown = 0) :=
  ⟨⟨by decide, by decide, inv_of_nearly⟩, by decide, by decide⟩

theorem witness_RunCycleIsItsEventsInOrder :
    (input false true 0x03 true).rst = false ∧ (at_ nearly).booted = true := by decide

theorem witness_EveryStepKeepsTheInvariant :
    ((at_ nearly).offer (input false true 0x03 true)).toRegisters.Inv ∧
      ∃ t, step ((at_ nearly).offer (input false true 0x03 true)) = .next t :=
  ⟨inv_of_nearly, ⟨_, rfl⟩⟩

/-- `n` quiet cycles with a tick, as stimulus. -/
def ticks (n : Nat) : List Stimulus := Stimulus.ticks n 0x00

/-- Every value of the countdown from TIMEOUT_TICKS down to 0 is reached from reset. -/
theorem reachable_after_ticks (n : Nat) : n ≤ 1000 →
    ∃ s, Reachable s ∧ s.booted = true ∧ s.countdown.toNat = 1000 - n ∧ s.stimulus = ticks (1000 - n) := by
  induction n with
  | zero =>
    intro _
    exact ⟨_, .step (.reset (.cycle quietPins :: ticks 1000)) rfl, rfl, by decide, rfl⟩
  | succ n ih =>
    intro h
    obtain ⟨s, hr, hb, hc, hs⟩ := ih (by omega)
    have e : 1000 - n = (1000 - (n + 1)) + 1 := by omega
    rw [e] at hc hs
    have hst : step s = runCycle (.tickOnly 0x00) s.popStimulus := by
      rw [step, State.fetch, hs]
      rfl
    let u := (s.popStimulus.beginCycle (.tickOnly 0x00)).countTick
    have hrun : runCycle (.tickOnly 0x00) s.popStimulus = andThen (execPoll u) (runOps []) := by
      rw [runCycle, show s.popStimulus.booted = true from hb]
      rfl
    have hne : (s.countdown != 0) = true := by
      have : s.countdown ≠ 0 := fun h0 => by rw [h0] at hc; exact absurd hc (by simp)
      simpa using this
    have hu : u.countdown.toNat = 1000 - (n + 1) := by
      show (if s.countdown != 0 then s.countdown - 1 else 0).toNat = _
      rw [hne, if_pos rfl, BitVec.toNat_sub]
      have := s.countdown.isLt
      simp
      omega
    have htail : s.popStimulus.stimulus = ticks (1000 - (n + 1)) := by
      rw [popStimulus_stimulus, hs]
      rfl
    rcases execPoll_cases u with ⟨-, hp⟩ | ⟨-, hp⟩
    · exact ⟨u.outWrite 0 false, .step hr (hst.trans (hrun.trans (by rw [hp]; rfl))), hb, hu, htail⟩
    · exact ⟨u, .step hr (hst.trans (hrun.trans (by rw [hp]; rfl))), hb, hu, htail⟩

/-- Reset itself, a state of RUN, and a state of RUN whose countdown has run out. -/
theorem witness_ReachableStatesSatisfyTheirBounds :
    (Reachable State.reset ∧ State.reset.booted = false) ∧
    (∃ s, Reachable s ∧ s.booted = true ∧ s.countdown = 0) := by
  refine ⟨⟨.reset [], rfl⟩, ?_⟩
  obtain ⟨s, hr, hb, hc, -⟩ := reachable_after_ticks 1000 (by omega)
  exact ⟨s, hr, hb, BitVec.eq_of_toNat_eq (by simpa using hc)⟩

theorem witness_EveryInterleavingOfEventsKeepsTheBounds : (at_ nearly).toRegisters.Bounded :=
  inv_of_nearly.bounded

theorem witness_EveryStepKeepsTheFrameInProgress :
    ((at_ nearly).offer (input false true 0x03 true)).InFrame ∧
      ∃ t, step ((at_ nearly).offer (input false true 0x03 true)) = .next t :=
  ⟨fun _ => ⟨fun h => absurd h (by decide), fun h => absurd h (by decide),
    fun _ => ⟨0x02, 0x55, by decide +kernel, by decide +kernel⟩⟩, ⟨_, rfl⟩⟩

theorem witness_OutputsFollowTheLastAcceptedCommand :
    (at_ (regs idle 0x0155 0x06 1 0x00AA true true)).shows 0x0155 :=
  ⟨by decide, by decide⟩

theorem witness_FrameIsAcceptedFromEveryRunState :
    (at_ nearly).booted = true ∧ (0x3FFF : Command) ≤ 0x3FFF ∧ (0x0000 : Command) ≤ 0x3FFF := by decide

/-- The frame of 0x0155 with a quiet cycle and a tick between its bytes. -/
def spread : List Input :=
  [.byte 0x80, .nop 0x00, .byte 0x02, .tickOnly 0x00, .byteTick 0x55]

theorem witness_FrameIsAcceptedWhateverFallsBetweenItsBytes :
    (at_ nearly).booted = true ∧ (0x0155 : Command) ≤ 0x3FFF ∧
    (∀ p ∈ spread ++ [Input.byte 0x03], p.rst = false) ∧ (Input.byte 0x03).rxValid = true ∧
    consumed (spread ++ [Input.byte 0x03]) =
      Sys2Proof.frameBytes ((0x0155 : Command).extractLsb' 7 7) ((0x0155 : Command).extractLsb' 0 7)
        (trailer ((0x0155 : Command).extractLsb' 7 7) ((0x0155 : Command).extractLsb' 0 7)) := by decide +kernel

theorem witness_FrameWithAWrongTrailerChangesNoOutput :
    (at_ nearly).booted = true ∧ ((at_ nearly).countdown = 0 → (at_ nearly).allOff) ∧
      (0x04 : DataBits) ≠ trailer 0x02 0x55 :=
  ⟨by decide, fun h => absurd h (by decide), by decide +kernel⟩

/-- A single flip of the lowest bit, and a double flip of the highest and the lowest. -/
theorem witness_OneOrTwoFlippedBitsAreNeverAccepted :
    (at_ nearly).booted = true ∧ ((at_ nearly).countdown = 0 → (at_ nearly).allOff) ∧ 0 < 21 ∧ 20 < 21 :=
  ⟨by decide, fun h => absurd h (by decide), by decide, by decide⟩

/-- Two bytes, with a quiet cycle and a tick among them. -/
def twoBytes : List Input := [.byte 0x80, .nop 0xAB, .tickOnly 0x03, .byte 0x02]

/-- No cycle between; and four cycles that take two bytes, the bound. -/
theorem witness_AcceptancesAreFourBytesApart :
    accepts (at_ nearly).toRegisters (.byte 0x03) = true ∧
    (∃ t, step ((at_ nearly).offer (.byte 0x03)) = .next t ∧
      (takenBytes [] t.toRegisters ≤ 2 ∧ ∃ u, runSteps 0 (t.offerAll []) = .next u) ∧
      (takenBytes twoBytes t.toRegisters = 2 ∧
        ∃ u, runSteps twoBytes.length (t.offerAll (twoBytes.map .cycle)) = .next u)) :=
  ⟨by decide, _, rfl, ⟨Nat.zero_le 2, _, rfl⟩, rfl, _, rfl⟩

/-- Fewer ticks than the countdown holds, exactly as many, and a countdown that has already run out. -/
theorem witness_OutputsGoOffAtExactlyTheLastTick :
    ((at_ nearly).booted = true ∧ ((at_ nearly).countdown = 0 → (at_ nearly).allOff) ∧
      NoAcceptance [.tickOnly 0x00, .byteTick 0x04] (at_ nearly).toRegisters ∧
      tickCount [.tickOnly 0x00, .byteTick 0x04] < (at_ nearly).countdown.toNat) ∧
    ((at_ { nearly with countdown := 2 }).booted = true ∧
      ((at_ { nearly with countdown := 2 }).countdown = 0 → (at_ { nearly with countdown := 2 }).allOff) ∧
      NoAcceptance [.tickOnly 0x00, .byteTick 0x04] (at_ { nearly with countdown := 2 }).toRegisters ∧
      (at_ { nearly with countdown := 2 }).countdown.toNat ≤ tickCount [.tickOnly 0x00, .byteTick 0x04]) ∧
    ((at_ timedOut).booted = true ∧ ((at_ timedOut).countdown = 0 → (at_ timedOut).allOff) ∧
      NoAcceptance [.tickOnly 0x00] (at_ timedOut).toRegisters) :=
  ⟨⟨by decide, fun h => absurd h (by decide), ⟨rfl, by decide, rfl, by decide, trivial⟩, by decide⟩,
    ⟨by decide, fun h => absurd h (by decide), ⟨rfl, by decide, rfl, by decide, trivial⟩, by decide⟩,
    by decide, fun _ => ⟨rfl, rfl⟩, rfl, by decide, trivial⟩

theorem witness_TrailerIsTheRemainderOfDivisionByG : (0x82 : Byte).getLsbD 0 = false := by decide

/-- A tick and a Poll fall between the bytes. -/
theorem witness_FrameIsAcceptedInEveryInterleavingOfEvents :
    (0x0155 : Command) ≤ 0x3FFF ∧
    eventBytes [.byte 0x80, .tick, .byte 0x02, .poll, .byte 0x55, .poll] =
      [0x80, 0#1 ++ (0x0155 : Command).extractLsb' 7 7, 0#1 ++ (0x0155 : Command).extractLsb' 0 7] := by decide

/-- Both directions: a reachable state, and a set of lines inside and one outside 1 to 11. -/
theorem witness_ReachableOutputsAreExactlyLines1To11AndAux :
    Reachable State.reset ∧ (0x07FF : Lines).extractLsb' 11 4 = 0 ∧ (0x0800 : Lines).extractLsb' 11 4 ≠ 0 :=
  ⟨.reset [], by decide, by decide⟩

/-- One operation of every row that has a pattern, at a boundary of its field. -/
theorem witness_DecodeOfEncodeIsTheOperation :
    [(Instr.marker, c2), (.ignore 0xFF, idle), (.abort 0x7F, c1), (.hi 0x7F, c0), (.lo 0x7F, c1),
      (.check 0x7F, c2), (.overrun 0x00, FState.collecting 3), (.cmdCruise 0xFFFF, idle),
      (.cmdMedia 0x1000, idle), (.cmdNormal 0xCFFF, idle), (.frame 0x7F 0x7F 0x7F, idle)].all
      (fun x => x.1.wf && x.1.hasPattern && x.1.selectedIn true x.2) = true := by decide

theorem witness_EncodeOfDecodeIsTheWord :
    decodeFrameWord 0x807F7F7F = .operations [.frame 0x7F 0x7F 0x7F] := by decide

theorem witness_SenderEncodingCarriesTheCommand : (0x3FFF : Command) ≤ 0x3FFF := by decide

/-- A core in its environment: the bytes `q` unread, the watchdog running and petted `cnt` cycles ago. -/
def system (S : Registers) (q : List Byte) (cnt : Nat) : System :=
  { core := at_ S, source := q, watchdog := { run := true, cnt := cnt }, restart := false }

/-- A cycle in which nothing outside happens. -/
def silent : Outside := { rst := false, tick := true, arrival := none, idleData := 0xAB }

theorem witness_UnreadBytesAreKeptUntilTaken :
    silent.arrival = none ∧
    (system Registers.reset [0x80, 0x02] 0).core.booted = false ∧
    (((system booted [0x80, 0x02] 0).pins silent).rst = false ∧ (system booted [0x80, 0x02] 0).core.booted = true) ∧
    ((system booted [0x80, 0x02] 0).pins { silent with rst := true }).rst = true := by decide

/-- An interval of 3 with one cycle since the last pet, so that two silent cycles remain. -/
theorem witness_StalledStreamRestartsTheCore :
    (system nearly [] 1).core.booted = true ∧ (system nearly [] 1).source = [] ∧
    (system nearly [] 1).watchdog.run = true ∧ (system nearly [] 1).restart = false ∧
    (system nearly [] 1).watchdog.cnt < 3 ∧ [silent, silent].length = 3 - (system nearly [] 1).watchdog.cnt ∧
    (∀ x ∈ [silent, silent], x.rst = false ∧ x.arrival = none) := by decide

end Sys2Proof.Tests
end

section
/-! SUPPORT. The Output Policy and the Poll, each as one equation: what they leave, in the words of `apply` of
R131. -/

namespace Sys2Proof.Machine

/-- The bits that R131 wires to the lines are the masked command shifted right by one. -/
theorem lineBits_eq_shift (m : Command) : lineBits m = (m >>> 1).setWidth 15 := by
  ext i hi
  simp [lineBits, Nat.add_comm]

/-- Invoking the Output Policy writes `apply(v)` to the outputs, and nothing else (R130, R131, R135). -/
theorem applyCommand_eq (v : Command) (s : State) :
    applyCommand v s = .next (s.outWrite (apply v).1 (apply v).2) := by
  have drive_override : s.drive (override v) = s.outWrite (apply v).1 (apply v).2 := by
    rw [State.drive, lineBits_eq_shift]
    rfl
  rw [← drive_override, override]
  rcases applyCommand_cases v s with ⟨hc, h⟩ | ⟨hc, hm, h⟩ | ⟨hc, hm, h⟩
  · rw [h, show v.getLsbD 13 = true from hc]
    rfl
  · rw [h, show v.getLsbD 13 = false from hc, show v.getLsbD 12 = true from hm]
    rfl
  · rw [h, show v.getLsbD 13 = false from hc, show v.getLsbD 12 = false from hm]
    rfl

/-- The ACCEPT action writes `apply(v)` and reloads the countdown (R145). -/
theorem acceptCommand_eq (v : Command) (s : State) :
    acceptCommand v s = .next (s.outWrite (apply v).1 (apply v).2).reload := by
  rw [acceptCommand, applyCommand_eq, andThen_next]

/-- The masks keep lines 12 to 15 off for every command a frame can carry (R136): bits 15 and 14 are 0 by
hypothesis, and bits 13 and 12 are masked where one of them is set. -/
theorem override_extract_high {v : Command} (hv : v.extractLsb' 14 2 = 0) :
    (override v).extractLsb' 12 4 = 0 := by
  unfold override
  split_ifs with h13 h12
  · simp [BitVec.extractLsb'_and]
  · simp [BitVec.extractLsb'_and]
  · have h14 : v.getLsbD 14 = false := by simpa using congrArg (BitVec.getLsbD · 0) hv
    have h15 : v.getLsbD 15 = false := by simpa using congrArg (BitVec.getLsbD · 1) hv
    ext i hi
    interval_cases i <;> simp_all

theorem apply_lines_extract_high {v : Command} (hv : v.extractLsb' 14 2 = 0) :
    (apply v).1.extractLsb' 11 4 = 0 := by
  rw [← override_extract_high hv]
  ext i hi
  interval_cases i <;> simp [apply]

/-- The state after a Poll (R141). -/
def State.afterPoll (s : State) : State := if s.countdown = 0 then s.outWrite 0 false else s

theorem execPoll_eq (s : State) : execPoll s = .next s.afterPoll := by
  rcases execPoll_cases s with ⟨h0, h⟩ | ⟨h0, h⟩
  · rw [h, State.afterPoll, if_pos h0]
  · rw [h, State.afterPoll, if_neg h0]

end Sys2Proof.Machine
end

section
/-! SUPPORT. The byte decoder and `framer_step` of R110 row by row: the seven rows of the opcode table a byte
can select, and what `framer_step` answers in each. -/

namespace Sys2Proof.Machine

/-- The row a byte selects in a framer state, with the row's condition (R72). -/
inductive ByteRow (F : Framer) : Byte → Prop where
  | marker : ByteRow F 0x80
  | ignore (c : Byte) (hF : F.inPacket = false) (hc : c ≠ 0x80) : ByteRow F c
  | abort (b : DataBits) (hF : F.inPacket = true) (hb : b ≠ 0) : ByteRow F (highByte b)
  | hi (d : DataBits) (hF : F.inPacket = true) (hl : F.length = 0) : ByteRow F (lowByte d)
  | lo (d : DataBits) (hF : F.inPacket = true) (hl : F.length = 1) : ByteRow F (lowByte d)
  | check (d : DataBits) (hF : F.inPacket = true) (hl : F.length = 2) : ByteRow F (lowByte d)
  | overrun (d : DataBits) (hF : F.inPacket = true) (hl : F.length = 3) : ByteRow F (lowByte d)

/-- Every byte selects a row in every framer state: the table of R72 is total. -/
theorem byteRow (F : Framer) (c : Byte) : ByteRow F c := by
  rcases byte_cases c with rfl | ⟨b, hb, rfl⟩ | ⟨d, rfl⟩
  · exact .marker
  · cases hF : F.inPacket
    · exact .ignore _ hF (highByte_ne_marker hb)
    · exact .abort b hF hb
  · cases hF : F.inPacket
    · exact .ignore _ hF (lowByte_ne_marker d)
    · rcases length_cases F.length with hl | hl | hl | hl
      · exact .hi d hF hl
      · exact .lo d hF hl
      · exact .check d hF hl
      · exact .overrun d hF hl

theorem decodeByte_marker (K : FState) : decodeByte K 0x80 = .marker := by
  rw [decodeByte, byteClass_marker]

theorem decodeByte_idle {K : FState} {c : Byte} (hK : K.inPacket = false) (hc : c ≠ 0x80) :
    decodeByte K c = .ignore c := by
  rcases byte_cases c with rfl | ⟨b, hb, rfl⟩ | ⟨d, rfl⟩
  · exact absurd rfl hc
  · simp [decodeByte_high K hb, hK]
  · simp [decodeByte_low, hK]

theorem framerStep_marker (F : Framer) :
    framerStep F 0x80 =
      { framer := { inPacket := true, length := 0, acc := 0x0000, crc := markerCrc }
        accept := false
        label := if F.inPacket then .restart else .start } := rfl

theorem framerStep_idle {F : Framer} {c : Byte} (hF : F.inPacket = false) (hc : c ≠ 0x80) :
    framerStep F c = { framer := F, accept := false, label := .ignore } := by
  simp only [framerStep, beq_iff_eq, hF, hc]
  rfl

theorem framerStep_high {F : Framer} {b : DataBits} (hF : F.inPacket = true) (hb : b ≠ 0) :
    framerStep F (highByte b) =
      { framer := { F with inPacket := false, length := 0 }, accept := false, label := .abort } := by
  simp only [framerStep, beq_iff_eq, hF, highByte_ne_marker hb, highByte_getLsbD_seven]
  rfl

/-- A LOW byte's data bits, as `framer_step` reads them into the low part (R110, R114). -/
theorem lowByte_and_setWidth (d : DataBits) : (lowByte d &&& 0x7F).setWidth 16 = lowPart d := by
  revert d; decide

/-- A LOW byte's data bits, as `framer_step` shifts them into the high part (R110, R113). -/
theorem lowByte_setWidth_shift (d : DataBits) : (lowByte d).setWidth 16 <<< 7 = highPart d := by
  revert d; decide

theorem framerStep_hi {F : Framer} (d : DataBits) (hF : F.inPacket = true) (hl : F.length = 0) :
    framerStep F (lowByte d) =
      { framer := { F with length := 1, acc := highPart d, crc := crc7Update F.crc (lowByte d) }
        accept := false, label := .hi } := by
  simp only [framerStep, beq_iff_eq, hF, hl, lowByte_ne_marker, lowByte_getLsbD_seven, lowByte_setWidth_shift]
  rfl

theorem framerStep_lo {F : Framer} (d : DataBits) (hF : F.inPacket = true) (hl : F.length = 1) :
    framerStep F (lowByte d) =
      { framer := { F with length := 2, acc := F.acc ||| lowPart d, crc := crc7Update F.crc (lowByte d) }
        accept := false, label := .lo } := by
  simp only [framerStep, beq_iff_eq, hF, hl, lowByte_ne_marker, lowByte_getLsbD_seven, lowByte_and_setWidth]
  rfl

theorem framerStep_check {F : Framer} (d : DataBits) (hF : F.inPacket = true) (hl : F.length = 2) :
    framerStep F (lowByte d) =
      { framer := { F with inPacket := false, length := 0 }
        accept := trailerMatches F.crc d
        label := if trailerMatches F.crc d then .accept else .crcFail } := by
  simp only [framerStep, beq_iff_eq, hF, hl, lowByte_ne_marker, lowByte_getLsbD_seven]
  by_cases hm : F.crc >>> 1 = lowByte d
  · simp only [trailerMatches, hm, beq_self_eq_true]
    rfl
  · simp only [trailerMatches, hm, beq_eq_false_iff_ne.mpr hm]
    rfl

theorem framerStep_overrun {F : Framer} (d : DataBits) (hF : F.inPacket = true) (hl : F.length = 3) :
    framerStep F (lowByte d) =
      { framer := { F with inPacket := false, length := 0 }, accept := false, label := .overrun } := by
  simp only [framerStep, beq_iff_eq, hF, hl, lowByte_ne_marker, lowByte_getLsbD_seven]
  rfl

end Sys2Proof.Machine
end

section
/-! SUPPORT. A byte as one equation (R110): the operation it decodes to leaves the state that `framer_step` and
`apply` say. -/

namespace Sys2Proof.Machine

/-- `s` with another framer. -/
def State.withFramer (s : State) (F : Framer) : State :=
  { s with inPacket := F.inPacket, length := F.length, acc := F.acc, crc := F.crc }

/-- The state after a byte, from `framer_step`: the byte taken, the next framer, and the ACCEPT action if
`accept` (R110, R145). -/
def State.afterByte (s : State) (c : Byte) : State :=
  let t := s.takeByte.withFramer (framerStep s.framer c).framer
  if (framerStep s.framer c).accept then (t.outWrite (apply s.acc).1 (apply s.acc).2).reload else t

theorem exec_decodeByte (s : State) (c : Byte) :
    exec (decodeByte s.fstate c) s = .next (s.afterByte c) := by
  have inPacket_eq : s.fstate.inPacket = s.framer.inPacket := rfl
  have length_eq : s.fstate.length = s.framer.length := rfl
  cases byteRow s.framer c with
  | marker =>
    rw [decodeByte_marker, State.afterByte, framerStep_marker]
    rfl
  | ignore c hF hc =>
    rw [decodeByte_idle hF hc, State.afterByte, framerStep_idle hF hc]
    rfl
  | abort b hF hb =>
    rw [decodeByte_high _ hb, inPacket_eq, hF, State.afterByte, framerStep_high hF hb]
    rfl
  | hi d hF hl =>
    rw [decodeByte_low, inPacket_eq, length_eq, hF, hl, State.afterByte, framerStep_hi d hF hl]
    rfl
  | lo d hF hl =>
    rw [decodeByte_low, inPacket_eq, length_eq, hF, hl, State.afterByte, framerStep_lo d hF hl]
    rfl
  | check d hF hl =>
    rw [decodeByte_low, inPacket_eq, length_eq, hF, hl, State.afterByte, framerStep_check d hF hl]
    show execCheck d s = _
    rcases execCheck_cases d s with ⟨hm, h⟩ | ⟨hm, h⟩
    · rw [h, acceptCommand_eq, show trailerMatches s.framer.crc d = true from hm]
      rfl
    · rw [h, show trailerMatches s.framer.crc d = false from hm]
      rfl
  | overrun d hF hl =>
    rw [decodeByte_low, inPacket_eq, length_eq, hF, hl, State.afterByte, framerStep_overrun d hF hl]
    rfl

@[simp] theorem afterByte_framer (s : State) (c : Byte) :
    (s.afterByte c).framer = (framerStep s.framer c).framer := by
  unfold State.afterByte
  split <;> rfl

@[simp] theorem afterByte_booted (s : State) (c : Byte) : (s.afterByte c).booted = s.booted := by
  unfold State.afterByte
  split <;> rfl

end Sys2Proof.Machine
end

section
/-! SUPPORT. The event level of R9: a list of events is a fold that always answers, and the framer sees only its
bytes. -/

namespace Sys2Proof.Machine

/-- The state after an event. -/
def State.afterEvent (s : State) : Event → State
  | .byte c => s.afterByte c
  | .tick => s.countTick
  | .poll => s.afterPoll

theorem runEvent_eq (e : Event) (s : State) : runEvent e s = .next (s.afterEvent e) := by
  cases e with
  | byte c => exact exec_decodeByte s c
  | tick => rfl
  | poll => exact execPoll_eq s

theorem runEvents_eq (es : List Event) (s : State) :
    runEvents es s = .next (es.foldl State.afterEvent s) := by
  induction es generalizing s with
  | nil => rfl
  | cons e es ih => rw [runEvents, runEvent_eq, andThen_next, ih, List.foldl_cons]

@[simp] theorem afterPoll_framer (s : State) : s.afterPoll.framer = s.framer := by
  unfold State.afterPoll
  split <;> rfl

@[simp] theorem afterPoll_booted (s : State) : s.afterPoll.booted = s.booted := by
  unfold State.afterPoll
  split <;> rfl

/-- Ticks and Polls do not touch the framer: after any events it is what `framer_step` makes of their bytes
alone. -/
theorem foldl_afterEvent_framer (es : List Event) (s : State) :
    (es.foldl State.afterEvent s).framer =
      (eventBytes es).foldl (fun F c => (framerStep F c).framer) s.framer := by
  induction es generalizing s with
  | nil => rfl
  | cons e es ih =>
    rw [List.foldl_cons, ih]
    cases e with
    | byte c => rw [eventBytes, List.foldl_cons, State.afterEvent, afterByte_framer]
    | tick => rfl
    | poll => rw [eventBytes, State.afterEvent, afterPoll_framer]

theorem foldl_afterEvent_booted (es : List Event) (s : State) :
    (es.foldl State.afterEvent s).booted = s.booted := by
  induction es generalizing s with
  | nil => rfl
  | cons e es ih =>
    rw [List.foldl_cons, ih]
    cases e <;> simp [State.afterEvent]

end Sys2Proof.Machine
end

section
/-! PROOF of O36: the bounds of R37 at the event level. The framer's clauses are kept by `framer_step`; the
countdown and the lines are written by the tick, the Poll and the ACCEPT action only. -/

namespace Sys2Proof.Machine

/-- The result of an iteration of R100 has bit 0 clear, so the result of any number but 0 has (R103 (b)). -/
theorem crcShifts_succ_getLsbD_zero (n : Nat) (t : Byte) : (crcShifts (n + 1) t).getLsbD 0 = false := by
  induction n generalizing t with
  | zero => simp [crcShifts, crcShift]
  | succ n ih => exact ih (crcShift t)

theorem crc7Update_getLsbD_zero (crc data : Byte) : (crc7Update crc data).getLsbD 0 = false :=
  crcShifts_succ_getLsbD_zero 7 _

/-- A high part has bits 15 and 14 clear (R113). -/
theorem highPart_extract_high (h : DataBits) : (highPart h).extractLsb' 14 2 = 0 := by
  revert h; decide

/-- A low part has bits 15 and 14 clear (R114). -/
theorem lowPart_extract_high (l : DataBits) : (lowPart l).extractLsb' 14 2 = 0 := by
  revert l; decide

/-- R37's clauses on the framer: a canonical `fstate`, `acc[15:14] == 0`, `crc[0] == 0`. -/
structure Framer.Bounded (F : Framer) : Prop where
  idle : F.inPacket = false → F.length = 0
  length : F.length ≠ 3
  acc : F.acc.extractLsb' 14 2 = 0
  crc : F.crc.getLsbD 0 = false

/-- The four encodings of R23: `length` is 0 in IDLE and never 3. -/
theorem canonicalFstate_iff (S : Registers) :
    S.canonicalFstate ↔ (S.inPacket = false → S.length = 0) ∧ S.length ≠ 3 := by
  unfold Registers.canonicalFstate Registers.fstate FState.idle FState.collecting
  cases S.inPacket <;> rcases length_cases S.length with h | h | h | h <;> simp [h]

theorem bounded_iff (S : Registers) :
    S.Bounded ↔
      S.framer.Bounded ∧ S.countdown ≤ config.timeoutTicks ∧ S.lineEn.extractLsb' 11 4 = 0 := by
  constructor
  · rintro ⟨hf, hacc, hcrc, hcd, hlines⟩
    obtain ⟨hidle, hlength⟩ := (canonicalFstate_iff S).mp hf
    exact ⟨⟨hidle, hlength, hacc, hcrc⟩, hcd, hlines⟩
  · rintro ⟨⟨hidle, hlength, hacc, hcrc⟩, hcd, hlines⟩
    exact ⟨(canonicalFstate_iff S).mpr ⟨hidle, hlength⟩, hacc, hcrc, hcd, hlines⟩

/-- Closing a frame keeps the framer's clauses: `acc` and `crc` stand. -/
theorem Framer.Bounded.close {F : Framer} (hF : F.Bounded) :
    Framer.Bounded { F with inPacket := false, length := 0 } :=
  ⟨fun _ => rfl, by simp, hF.acc, hF.crc⟩

theorem framerStep_keeps_bounded {F : Framer} (hF : F.Bounded) (c : Byte) :
    (framerStep F c).framer.Bounded := by
  cases byteRow F c with
  | marker =>
    rw [framerStep_marker]
    exact ⟨fun _ => rfl, by simp, by simp, crc7Update_getLsbD_zero _ _⟩
  | ignore c hp hc =>
    rw [framerStep_idle hp hc]
    exact hF
  | abort b hp hb =>
    rw [framerStep_high hp hb]
    exact hF.close
  | hi d hp hl =>
    rw [framerStep_hi d hp hl]
    exact ⟨by simp [hp], by simp, highPart_extract_high d, crc7Update_getLsbD_zero _ _⟩
  | lo d hp hl =>
    rw [framerStep_lo d hp hl]
    refine ⟨by simp [hp], by simp, ?_, crc7Update_getLsbD_zero _ _⟩
    rw [BitVec.extractLsb'_or, hF.acc, lowPart_extract_high, BitVec.or_self]
  | check d hp hl =>
    rw [framerStep_check d hp hl]
    exact hF.close
  | overrun d hp hl =>
    rw [framerStep_overrun d hp hl]
    exact hF.close

theorem afterByte_keeps_bounded {s : State} (hs : s.toRegisters.Bounded) (c : Byte) :
    (s.afterByte c).toRegisters.Bounded := by
  obtain ⟨hF, hcd, hlines⟩ := (bounded_iff _).mp hs
  rw [bounded_iff, afterByte_framer]
  refine ⟨framerStep_keeps_bounded hF c, ?_⟩
  unfold State.afterByte
  split
  · exact ⟨BitVec.le_refl _, apply_lines_extract_high hs.acc⟩
  · exact ⟨hcd, hlines⟩

/-- A tick never raises the countdown (R140). -/
theorem countTick_countdown_le (s : State) : s.countTick.countdown ≤ s.countdown := by
  rw [countTick_countdown]
  split_ifs with h
  · have hne : s.countdown ≠ 0 := by simpa using h
    bv_omega
  · bv_omega

theorem countTick_keeps_bounded {s : State} (hs : s.toRegisters.Bounded) :
    s.countTick.toRegisters.Bounded :=
  { hs with countdown := BitVec.le_trans (countTick_countdown_le s) hs.countdown }

theorem afterPoll_keeps_bounded {s : State} (hs : s.toRegisters.Bounded) :
    s.afterPoll.toRegisters.Bounded := by
  unfold State.afterPoll
  split
  · exact { hs with lines := BitVec.extractLsb'_zero }
  · exact hs

theorem afterEvent_keeps_bounded {s : State} (hs : s.toRegisters.Bounded) (e : Event) :
    (s.afterEvent e).toRegisters.Bounded := by
  cases e with
  | byte c => exact afterByte_keeps_bounded hs c
  | tick => exact countTick_keeps_bounded hs
  | poll => exact afterPoll_keeps_bounded hs

theorem foldl_afterEvent_bounded (es : List Event) {s : State} (hs : s.toRegisters.Bounded) :
    (es.foldl State.afterEvent s).toRegisters.Bounded := by
  induction es generalizing s with
  | nil => exact hs
  | cons e es ih => exact ih (afterEvent_keeps_bounded hs e)

/-- A Poll turns a state within the bounds into one that meets R37's last clause too. -/
theorem afterPoll_inv {s : State} (hs : s.toRegisters.Bounded) : s.afterPoll.toRegisters.Inv := by
  refine ⟨afterPoll_keeps_bounded hs, ?_⟩
  unfold State.afterPoll
  split
  · exact fun _ => ⟨rfl, rfl⟩
  · exact fun h0 => absurd h0 ‹_›

/-- Settles O36: every event keeps the bounds, so every list of events does; the Poll adds the last clause. -/
theorem everyInterleavingOfEventsKeepsTheBounds : Obligations.EveryInterleavingOfEventsKeepsTheBounds := by
  intro es s hs
  have hes : (es.foldl State.afterEvent s).toRegisters.Bounded := foldl_afterEvent_bounded es hs
  refine ⟨_, runEvents_eq es s, hes, _, runEvents_eq _ s, ?_⟩
  rw [List.foldl_append]
  exact afterPoll_inv hes

end Sys2Proof.Machine
end

section
/-! PROOF of O45: the three bytes before the trailer bring the framer to C2 with V and `crc3`, whatever it held
before; Ticks and Polls among them do not reach it. -/

namespace Sys2Proof.Machine

/-- The marker and two data bytes leave, from every framer state, the assembled command and its CRC in C2
(R76, R101). -/
theorem foldl_framerStep_dataBytes (F : Framer) (h l : DataBits) :
    [0x80, lowByte h, lowByte l].foldl (fun F c => (framerStep F c).framer) F =
      { inPacket := true, length := 2, acc := assemble h l, crc := frameCrc h l } := by
  simp only [List.foldl_cons, List.foldl_nil]
  rw [framerStep_marker, framerStep_hi h rfl rfl, framerStep_lo l rfl rfl]
  rfl

/-- A command of at most 14 bits is assembled again from its two parts (R75, R76). -/
theorem assemble_extract {v : Command} (hv : v ≤ 0x3FFF) :
    assemble (v.extractLsb' 7 7) (v.extractLsb' 0 7) = v := by
  have hle : v.toNat ≤ 0x3FFF := hv
  have hhigh : (highPart (v.extractLsb' 7 7)).toNat = (v.toNat / 128) <<< 7 := by
    simp [highPart, Nat.shiftRight_eq_div_pow, Nat.shiftLeft_eq]
    omega
  have hlow : (lowPart (v.extractLsb' 0 7)).toNat = v.toNat % 128 := by
    simp [lowPart]
    omega
  apply BitVec.eq_of_toNat_eq
  rw [assemble, BitVec.toNat_or, hhigh, hlow, ← Nat.shiftLeft_add_eq_or_of_lt (by omega), Nat.shiftLeft_eq]
  omega

theorem trailerMatches_trailer (h l : DataBits) : trailerMatches (frameCrc h l) (trailer h l) = true := by
  simp [trailerMatches, frameCrc_shift]

/-- A matching trailer in C2 closes the frame and takes the ACCEPT action (R115, R145). -/
theorem afterByte_trailer {s : State} {c : DataBits} (hp : s.framer.inPacket = true)
    (hl : s.framer.length = 2) (hm : trailerMatches s.framer.crc c = true) :
    s.afterByte (lowByte c) =
      (s.takeByte.closeFrame.outWrite (apply s.acc).1 (apply s.acc).2).reload := by
  rw [State.afterByte, framerStep_check c hp hl, hm]
  rfl

/-- Settles O45: the framer is a function of the bytes alone, so after `es` it is in C2 with V and its CRC, and
the trailer is accepted. -/
theorem frameIsAcceptedInEveryInterleavingOfEvents :
    Obligations.FrameIsAcceptedInEveryInterleavingOfEvents := by
  intro s v es hv hbytes
  set h := v.extractLsb' 7 7
  set l := v.extractLsb' 0 7
  set t := es.foldl State.afterEvent s with ht
  have hframer : t.framer = { inPacket := true, length := 2, acc := v, crc := frameCrc h l } := by
    rw [ht, foldl_afterEvent_framer, hbytes, ← assemble_extract hv]
    exact foldl_framerStep_dataBytes s.framer h l
  have hacc : t.acc = v := congrArg Framer.acc hframer
  have hlast : (es ++ [Event.byte (lowByte (trailer h l))]).foldl State.afterEvent s =
      (t.takeByte.closeFrame.outWrite (apply v).1 (apply v).2).reload := by
    rw [List.foldl_append, ← ht, ← hacc]
    exact afterByte_trailer (by rw [hframer]) (by rw [hframer])
      (by rw [hframer]; exact trailerMatches_trailer h l)
  exact ⟨_, (runEvents_eq _ s).trans (congrArg _ hlast), rfl, hacc, ⟨rfl, rfl⟩, config_timeoutTicks,
    foldl_afterEvent_booted es s⟩

end Sys2Proof.Machine
end

section
/-! SUPPORT. A cycle and a step as one equation each: a RUN cycle is the fold of its events (R61, R147), and a
step always answers (R160). -/

namespace Sys2Proof.Machine

@[simp] theorem afterPoll_fstate (s : State) : s.afterPoll.fstate = s.fstate := by
  unfold State.afterPoll
  split <;> rfl

/-- The byte of a cycle, if there is one, in a state whose `fstate` is the one it was decoded in. -/
theorem runOps_byte (p : Input) {F : FState} {s : State} (hF : s.fstate = F) :
    runOps (if p.rxValid then [decodeByte F p.rxData] else []) s =
      .next ((if p.rxValid then [.byte p.rxData] else []).foldl State.afterEvent s) := by
  subst hF
  split
  · rw [runOps, exec_decodeByte, andThen_next]
    rfl
  · rfl

/-- The operations of a RUN cycle are its events in order: the byte is decoded before the tick and the Poll act,
and they leave `fstate` alone. -/
theorem runOps_decodeCycle_run {p : Input} (hr : p.rst = false) (s : State) :
    runOps (decodeCycle true s.fstate p) s = .next (p.events.foldl State.afterEvent s) := by
  have poll_byte (u : State) (hu : u.fstate = s.fstate) :
      runOps (.poll :: if p.rxValid then [decodeByte s.fstate p.rxData] else []) u =
        .next ((if p.rxValid then [.byte p.rxData] else []).foldl State.afterEvent u.afterPoll) := by
    rw [runOps, show exec .poll u = .next u.afterPoll from execPoll_eq u, andThen_next]
    exact runOps_byte p ((afterPoll_fstate u).trans hu)
  rw [decodeCycle, Input.events, hr]
  cases p.tick
  · exact poll_byte s rfl
  · exact poll_byte s.countTick rfl

/-- The state after one clock cycle: reset beats everything, BOOT beats RUN (R169, R147). -/
def State.afterCycle (s : State) (p : Input) : State :=
  if p.rst then (s.beginCycle p).enterReset
  else if s.booted then p.events.foldl State.afterEvent (s.beginCycle p)
  else (s.beginCycle p).armWatchdog

theorem afterCycle_rst {p : Input} (hr : p.rst = true) (s : State) :
    s.afterCycle p = (s.beginCycle p).enterReset := if_pos hr

theorem afterCycle_run {p : Input} {s : State} (hr : p.rst = false) (hb : s.booted = true) :
    s.afterCycle p = p.events.foldl State.afterEvent (s.beginCycle p) := by
  simp [State.afterCycle, hr, hb]

theorem afterCycle_boot {p : Input} {s : State} (hr : p.rst = false) (hb : s.booted = false) :
    s.afterCycle p = (s.beginCycle p).armWatchdog := by
  simp [State.afterCycle, hr, hb]

theorem runCycle_eq (p : Input) (s : State) : runCycle p s = .next (s.afterCycle p) := by
  rw [runCycle]
  cases hr : p.rst
  · cases hb : s.booted
    · rw [afterCycle_boot hr hb, decodeCycle, hr]
      rfl
    · rw [afterCycle_run hr hb]
      exact runOps_decodeCycle_run hr (s.beginCycle p)
  · rw [afterCycle_rst hr, decodeCycle, hr]
    rfl

/-- A step changes the registers as one clock cycle does, or it is the expansion of a FRAME and changes none
(R82). -/
theorem step_registers_cases {s t : State} (h : step s = .next t) :
    t.toRegisters = s.toRegisters ∨ ∃ p, t = s.popStimulus.afterCycle p := by
  unfold step at h
  split at h
  next p _ =>
    rw [runCycle_eq] at h
    cases h
    exact .inr ⟨p, rfl⟩
  next =>
    cases h
    exact .inl rfl

end Sys2Proof.Machine
end

section
/-! PROOF of O33, O34, O35: the invariant of R37. A RUN cycle keeps the bounds through its ticks, its Poll adds the
last clause, and the byte after the Poll keeps that: it writes the outputs only where it reloads the countdown. -/

namespace Sys2Proof.Machine

theorem reset_bounded : Registers.reset.Bounded := by
  rw [bounded_iff]
  exact ⟨⟨fun _ => rfl, by decide, rfl, rfl⟩, BitVec.le_refl _, rfl⟩

theorem reset_inv : Registers.reset.Inv := ⟨reset_bounded, fun _ => ⟨rfl, rfl⟩⟩

/-- Settles O33: outside a frame what R101 says holds of nothing, and all off is what command 0 shows. -/
theorem resetStateSatisfiesTheInvariants : Obligations.ResetStateSatisfiesTheInvariants :=
  ⟨reset_inv, fun hp => absurd hp Bool.false_ne_true, ⟨by decide, by decide⟩, rfl⟩

/-- A byte writes the outputs only with the countdown's reload, which is not 0 (R145, D6). -/
theorem afterByte_keeps_inv {s : State} (hs : s.toRegisters.Inv) (c : Byte) :
    (s.afterByte c).toRegisters.Inv := by
  refine ⟨afterByte_keeps_bounded hs.bounded c, ?_⟩
  unfold State.afterByte
  split
  · exact fun h0 => absurd (show config.timeoutTicks = 0 from h0) (by decide)
  · exact hs.off

/-- The events of a RUN cycle bring every state within the bounds to one that meets R37's last clause too. -/
theorem foldl_events_inv {s : State} (hs : s.toRegisters.Bounded) (p : Input) :
    (p.events.foldl State.afterEvent s).toRegisters.Inv := by
  rw [Input.events, List.foldl_append, List.foldl_append]
  have hticks : ((if p.tick then [.tick] else []).foldl State.afterEvent s).toRegisters.Bounded :=
    foldl_afterEvent_bounded _ hs
  have hpoll := afterPoll_inv hticks
  cases p.rxValid
  · exact hpoll
  · exact afterByte_keeps_inv hpoll p.rxData

theorem afterCycle_keeps_inv {s : State} (hs : s.toRegisters.Inv) (p : Input) :
    (s.afterCycle p).toRegisters.Inv := by
  cases hr : p.rst
  · cases hb : s.booted
    · rw [afterCycle_boot hr hb]
      exact ⟨{ hs.bounded with }, hs.off⟩
    · rw [afterCycle_run hr hb]
      have hbegin : (s.beginCycle p).toRegisters.Bounded := hs.bounded
      exact foldl_events_inv hbegin p
  · rw [afterCycle_rst hr]
    exact reset_inv

/-- Settles O34: a FRAME's expansion changes no register, and every cycle keeps the invariant. -/
theorem everyStepKeepsTheInvariant : Obligations.EveryStepKeepsTheInvariant := by
  intro s t hs h
  rcases step_registers_cases h with hreg | ⟨p, rfl⟩
  · rw [hreg]
    exact hs
  · have hpop : s.popStimulus.toRegisters.Inv := hs
    exact afterCycle_keeps_inv hpop p

/-- A cycle that ends in BOOT was a reset (R146, R180). -/
theorem afterCycle_registers_of_boot {s : State} {p : Input} (hb : (s.afterCycle p).booted = false) :
    (s.afterCycle p).toRegisters = Registers.reset := by
  cases hr : p.rst
  · cases hs : s.booted
    · rw [afterCycle_boot hr hs] at hb
      cases hb
    · rw [afterCycle_run hr hs, foldl_afterEvent_booted, beginCycle_booted, hs] at hb
      cases hb
  · rw [afterCycle_rst hr]
    rfl

/-- What reset's registers satisfy and every step keeps holds of every reachable state. -/
theorem Reachable.induction_registers (P : Registers → Prop) (hreset : P Registers.reset)
    (hstep : ∀ s t : State, P s.toRegisters → Machine.step s = .next t → P t.toRegisters)
    {s : State} (hs : Reachable s) : P s.toRegisters := by
  induction hs with
  | reset items => exact hreset
  | step _ h ih => exact hstep _ _ ih h

theorem Reachable.inv {s : State} (hs : Reachable s) : s.toRegisters.Inv :=
  hs.induction_registers Registers.Inv reset_inv everyStepKeepsTheInvariant

theorem Reachable.registers_of_boot {s : State} (hs : Reachable s) :
    s.booted = false → s.toRegisters = Registers.reset := by
  refine hs.induction_registers (fun S => S.booted = false → S = Registers.reset) (fun _ => rfl) ?_
  intro s t ih h
  rcases step_registers_cases h with hreg | ⟨p, rfl⟩
  · rw [hreg]
    exact ih
  · exact afterCycle_registers_of_boot

/-- The four canonical encodings as the bits `{in_packet, length}` (R23). -/
theorem Registers.canonicalFstate.bits {S : Registers} (h : S.canonicalFstate) :
    S.fstate.bits = 0b000 ∨ S.fstate.bits = 0b100 ∨ S.fstate.bits = 0b101 ∨ S.fstate.bits = 0b110 := by
  rcases h with h | h | h | h <;> rw [h] <;> decide

/-- Every bit of a field that is zero is 0. -/
theorem getLsbD_of_extract_eq_zero {w start len i : Nat} {x : BitVec w} (hx : x.extractLsb' start len = 0)
    (hlo : start ≤ i) (hhi : i < start + len) : x.getLsbD i = false := by
  have hbit : (x.extractLsb' start len).getLsbD (i - start) = false := by rw [hx]; simp
  rw [BitVec.getLsbD_extractLsb', decide_eq_true (by omega), Bool.true_and] at hbit
  rwa [Nat.add_sub_cancel' hlo] at hbit

/-- Settles O35: the bounds bit by bit from the invariant, which every reachable state meets, and BOOT from its
one entry. -/
theorem reachableStatesSatisfyTheirBounds : Obligations.ReachableStatesSatisfyTheirBounds := by
  intro s hs
  obtain ⟨⟨hfstate, hacc, hcrc, hcountdown, hlines⟩, hoff⟩ := hs.inv
  have lines_off (k : Nat) (hlo : 12 ≤ k) (hhi : k ≤ 15) : s.lineEnabled k = false := by
    rw [State.lineEnabled, getLsbD_of_extract_eq_zero hlines (by omega) (by omega), Bool.and_false]
  exact ⟨hfstate.bits, getLsbD_of_extract_eq_zero hacc (by decide) (by decide),
    getLsbD_of_extract_eq_zero hacc (by decide) (by decide), hcrc, hcountdown, lines_off, fun _ => hoff,
    hs.registers_of_boot⟩

end Sys2Proof.Machine
end

section
/-! PROOF of O32 and O27: what a cycle's input record brings to it. A RUN cycle and the event level are the same
fold of `afterEvent`; and without `rx_valid` neither the decoder nor the start of a cycle reads `rx_data`. -/

namespace Sys2Proof.Machine

/-- Settles O32: both sides are the fold of the cycle's events from its start. -/
theorem runCycleIsItsEventsInOrder : Obligations.RunCycleIsItsEventsInOrder := by
  intro s p hr hb
  rw [runCycle_eq, afterCycle_run hr hb, runEvents_eq]

/-- `rx_data` reaches the decoder only in the byte operation, which `rx_valid` selects (R52, R169). -/
theorem decodeCycle_withRxData {p : Input} (hv : p.rxValid = false) (e : Byte) (booted : Bool) (F : FState) :
    decodeCycle booted F { p with rxData := e } = decodeCycle booted F p := by
  simp [decodeCycle, hv]

/-- The start of a cycle reads no `rx_data`, whatever `rx_valid` is (R150). -/
theorem beginCycle_withRxData (s : State) (p : Input) (e : Byte) :
    s.beginCycle { p with rxData := e } = s.beginCycle p := rfl

theorem runCycle_withRxData {p : Input} (hv : p.rxValid = false) (e : Byte) (s : State) :
    runCycle { p with rxData := e } s = runCycle p s := by
  rw [runCycle, decodeCycle_withRxData hv, beginCycle_withRxData, runCycle]

/-- Settles O27: a step of an offered record is its cycle, and that ignores `rx_data` without `rx_valid`. -/
theorem rxDataIsIgnoredWithoutRxValid : Obligations.RxDataIsIgnoredWithoutRxValid := by
  intro s rst tick d e
  rw [step_offer, step_offer]
  exact runCycle_withRxData (p := { rst := rst, rxValid := false, rxData := e, tick := tick }) rfl d s

end Sys2Proof.Machine
end

section
/-! SUPPORT. The command classes by their two bits (R78), and the 32-bit frame word by its four bytes (R73). -/

namespace Sys2Proof.Machine

/-- The bits that the masks of R78 read, one by one. -/
theorem and_bits_13_12 (v : Command) :
    v &&& 0x3000 = (if v.getLsbD 13 then 0x2000 else 0) ||| (if v.getLsbD 12 then 0x1000 else 0) := by
  have hmask : (0x3000 : Command) = BitVec.twoPow 16 13 ||| BitVec.twoPow 16 12 := by decide
  rw [hmask, BitVec.and_or_distrib_left, BitVec.and_twoPow, BitVec.and_twoPow]
  rfl

theorem and_cruise_iff (v : Command) : v &&& 0x2000 = 0x2000 ↔ v.getLsbD 13 = true := by
  have hbit : v &&& 0x2000 = if v.getLsbD 13 then 0x2000 else 0 := BitVec.and_twoPow v 13
  rw [hbit]
  cases v.getLsbD 13 <;> decide

theorem and_media_iff (v : Command) :
    v &&& 0x3000 = 0x1000 ↔ v.getLsbD 13 = false ∧ v.getLsbD 12 = true := by
  rw [and_bits_13_12]
  cases v.getLsbD 13 <;> cases v.getLsbD 12 <;> decide

theorem and_normal_iff (v : Command) :
    v &&& 0x3000 = 0x0000 ↔ v.getLsbD 13 = false ∧ v.getLsbD 12 = false := by
  rw [and_bits_13_12]
  cases v.getLsbD 13 <;> cases v.getLsbD 12 <;> decide

@[simp] theorem inClass_iff {v mask pattern : Command} :
    Command.inClass v mask pattern = true ↔ v &&& mask = pattern := beq_iff_eq

/-- The class the decoder answers, by the two bits, bit 13 first (R78, R130). -/
theorem decodeCommand_eq (v : Command) :
    decodeCommand v =
      if v.getLsbD 13 then .cmdCruise v else if v.getLsbD 12 then .cmdMedia v else .cmdNormal v := by
  simp only [decodeCommand, inClass_iff, and_cruise_iff, and_media_iff]
  cases v.getLsbD 13 <;> simp

/-- The row a command selects, with the row's condition: the decoder's answer is one of three classes. -/
theorem decodeCommand_cases (v : Command) :
    (v &&& 0x2000 = 0x2000 ∧ decodeCommand v = .cmdCruise v) ∨
    (v &&& 0x3000 = 0x1000 ∧ decodeCommand v = .cmdMedia v) ∨
    (v &&& 0x3000 = 0x0000 ∧ decodeCommand v = .cmdNormal v) := by
  rw [and_cruise_iff, and_media_iff, and_normal_iff, decodeCommand_eq]
  cases v.getLsbD 13 <;> cases v.getLsbD 12 <;> simp

theorem decodeCommand_wf (v : Command) : (decodeCommand v).wf = true := by
  rcases decodeCommand_cases v with ⟨hv, h⟩ | ⟨hv, h⟩ | ⟨hv, h⟩
  all_goals rw [h, Instr.wf, inClass_iff, hv]

theorem encode_decodeCommand (v : Command) : encode (decodeCommand v) = .c16 v := by
  rcases decodeCommand_cases v with ⟨-, h⟩ | ⟨-, h⟩ | ⟨-, h⟩
  all_goals rw [h, encode]

/-- The four bytes of a frame word, the marker in bits 31:24 (R73). -/
theorem frameByte_frameWord (h l c : DataBits) :
    frameByte (frameWord h l c) 0 = 0x80 ∧ frameByte (frameWord h l c) 1 = lowByte h ∧
    frameByte (frameWord h l c) 2 = lowByte l ∧ frameByte (frameWord h l c) 3 = lowByte c := by
  have tail (b0 b1 b2 b3 : Byte) (start : Nat) :
      (b0 ++ b1 ++ b2 ++ b3).extractLsb' (start + 8) 8 = (b0 ++ b1 ++ b2).extractLsb' start 8 :=
    BitVec.extractLsb'_append_eq_of_le (Nat.le_add_left 8 start)
  refine ⟨(tail _ _ _ _ 16).trans ?_, (tail _ _ _ _ 8).trans ?_, (tail _ _ _ _ 0).trans ?_, ?_⟩
  · exact (BitVec.extractLsb'_append_eq_of_le (by decide)).trans BitVec.extractLsb'_append_eq_left
  · exact (BitVec.extractLsb'_append_eq_of_le (by decide)).trans BitVec.extractLsb'_append_eq_right
  · exact BitVec.extractLsb'_append_eq_right
  · exact BitVec.extractLsb'_append_eq_right

/-- A 32-bit word is its four bytes. -/
theorem frameByte_append (w : BitVec 32) :
    frameByte w 0 ++ frameByte w 1 ++ frameByte w 2 ++ frameByte w 3 = w := by
  have h01 : frameByte w 0 ++ frameByte w 1 = w.extractLsb' 16 16 :=
    BitVec.extractLsb'_append_extractLsb'_eq_extractLsb' rfl
  have h012 : w.extractLsb' 16 16 ++ frameByte w 2 = w.extractLsb' 8 24 :=
    BitVec.extractLsb'_append_extractLsb'_eq_extractLsb' rfl
  have h0123 : w.extractLsb' 8 24 ++ frameByte w 3 = w.extractLsb' 0 32 :=
    BitVec.extractLsb'_append_extractLsb'_eq_extractLsb' rfl
  rw [h01, h012, h0123, BitVec.extractLsb'_eq_self]

theorem decodeFourBytes_lowBytes (h l c : DataBits) :
    decodeFourBytes 0x80 (lowByte h) (lowByte l) (lowByte c) = .operations [.frame h l c] := by
  simp only [decodeFourBytes, lowByte_getLsbD_seven, dataBits_lowByte]
  rfl

/-- Four bytes that decode are the marker and three LOW bytes, and decode to the FRAME of their data bits. -/
theorem decodeFourBytes_eq_operations {b0 b1 b2 b3 : Byte} {is : List Instr}
    (hd : decodeFourBytes b0 b1 b2 b3 = .operations is) :
    ∃ h l c, b0 = 0x80 ∧ b1 = lowByte h ∧ b2 = lowByte l ∧ b3 = lowByte c ∧ is = [.frame h l c] := by
  unfold decodeFourBytes at hd
  split_ifs at hd with h0 h1 h2 h3
  cases hd
  exact ⟨_, _, _, by simpa using h0, eq_lowByte (by simpa using h1), eq_lowByte (by simpa using h2),
    eq_lowByte (by simpa using h3), rfl⟩

theorem decodeFrameWord_frameWord (h l c : DataBits) :
    decodeFrameWord (frameWord h l c) = .operations [.frame h l c] := by
  obtain ⟨h0, h1, h2, h3⟩ := frameByte_frameWord h l c
  rw [decodeFrameWord, h0, h1, h2, h3, decodeFourBytes_lowBytes]

/-- A word that decodes is the word of one FRAME. -/
theorem decodeFrameWord_eq_operations {w : BitVec 32} {is : List Instr}
    (hd : decodeFrameWord w = .operations is) : ∃ h l c, is = [.frame h l c] ∧ frameWord h l c = w := by
  obtain ⟨h, l, c, h0, h1, h2, h3, his⟩ := decodeFourBytes_eq_operations hd
  refine ⟨h, l, c, his, ?_⟩
  rw [← frameByte_append w, h0, h1, h2, h3]
  rfl

end Sys2Proof.Machine
end

section
/-! PROOF of O47, O20, O48, O49: the decoder and the encoder are each other's inverse, format by format. -/

namespace Sys2Proof.Machine

/-- Settles O47: row by row, the row's condition picks the arm of the decoder that its encoding's byte class, mask
or fixed bits lead to. -/
theorem decodeOfEncodeIsTheOperation : Obligations.DecodeOfEncodeIsTheOperation := by
  intro i booted F hwf hpat hsel
  have one {j : Instr} (h : j = i) : Decoded.operations [j] = .operations [i] := by rw [h]
  cases i with
  | marker => exact one (decodeByte_marker F)
  | ignore b =>
    have hp : F.inPacket = false := by simpa [Instr.selectedIn] using hsel
    exact one (decodeByte_idle hp (bne_iff_ne.mp hwf))
  | abort b => exact one ((decodeByte_high F (bne_iff_ne.mp hwf)).trans (if_pos hsel))
  | hi d | lo d | check d | overrun d =>
    simp only [Instr.selectedIn, Bool.and_eq_true, beq_iff_eq] at hsel
    obtain ⟨hp, hl⟩ := hsel
    exact one (by simp [decodeByte_low, hp, hl])
  | cmdCruise v =>
    have h13 := (and_cruise_iff v).mp (inClass_iff.mp hwf)
    exact one (by rw [decodeCommand_eq, h13]; rfl)
  | cmdMedia v =>
    obtain ⟨h13, h12⟩ := (and_media_iff v).mp (inClass_iff.mp hwf)
    exact one (by rw [decodeCommand_eq, h13, h12]; rfl)
  | cmdNormal v =>
    obtain ⟨h13, h12⟩ := (and_normal_iff v).mp (inClass_iff.mp hwf)
    exact one (by rw [decodeCommand_eq, h13, h12]; rfl)
  | frame h l c => exact decodeFrameWord_frameWord h l c
  | tick => cases hpat
  | poll => cases hpat
  | boot => cases hpat
  | reset => cases hpat

/-- Settles O20: each mask reads bits 13 and 12, and the decoder's three cases follow them. -/
theorem commandClassesPartitionTheCommands : Obligations.CommandClassesPartitionTheCommands := fun v =>
  ⟨and_cruise_iff v, and_media_iff v, and_normal_iff v, decodeCommand_cases v, decodeCommand_wf v⟩

/-- A byte's operation is well formed, selected in the framer state it was decoded in, and encodes to the byte:
one case for each row a byte can select (R72). -/
theorem decodeByte_wf_selectedIn_encode (booted : Bool) (F : FState) (c : Byte) :
    (decodeByte F c).wf = true ∧ (decodeByte F c).selectedIn booted F = true ∧
    encode (decodeByte F c) = .b8 c := by
  cases byteRow { inPacket := F.inPacket, length := F.length, acc := 0, crc := 0 } c with
  | marker => rw [decodeByte_marker]; exact ⟨rfl, rfl, rfl⟩
  | ignore _ hp hc =>
    rw [decodeByte_idle hp hc]
    exact ⟨bne_iff_ne.mpr hc, congrArg not hp, rfl⟩
  | abort b hp hb =>
    rw [decodeByte_high F hb, if_pos hp]
    exact ⟨bne_iff_ne.mpr hb, hp, rfl⟩
  | hi d hp hl | lo d hp hl | check d hp hl | overrun d hp hl =>
    dsimp only at hp hl
    simp [decodeByte_low, hp, hl, Instr.wf, Instr.selectedIn, encode]

/-- Settles O48: bytes by their rows, commands by their class, and a frame word that decodes by its four bytes. -/
theorem encodeOfDecodeIsTheWord : Obligations.EncodeOfDecodeIsTheWord := by
  refine ⟨decodeByte_wf_selectedIn_encode, fun v => ⟨decodeCommand_wf v, encode_decodeCommand v⟩, ?_⟩
  intro w is hd
  obtain ⟨h, l, c, his, hw⟩ := decodeFrameWord_eq_operations hd
  exact ⟨h, l, c, his, congrArg Encoding.f32 hw⟩

/-- Settles O49: each word is its row's equation at one value of the operands. -/
theorem sampleWordsDecodeToTheirOperations : Obligations.SampleWordsDecodeToTheirOperations :=
  ⟨decodeByte_marker _, decodeByte_idle rfl (by decide), decodeByte_low _ 0b0000010,
    decodeByte_low _ 0b1010101, decodeByte_low _ 0b0000011, decodeByte_high _ (b := 0b1111111) (by decide),
    decodeByte_low _ 0b0000011, decodeCommand_eq _, decodeCommand_eq _, decodeCommand_eq _,
    decodeFrameWord_frameWord 0x02 0x55 0x03⟩

end Sys2Proof.Machine
end

section
/-! PROOF of O50 and O51: what a sender puts on the wire, as bytes and as input records. -/

namespace Sys2Proof.Machine

/-- A LOW byte is its data bits under a top bit 0 (R71). -/
theorem lowByte_eq_setWidth (d : DataBits) : lowByte d = d.setWidth 8 := by
  revert d; decide

/-- The seven bits of a command from bit `k` on, as a LOW byte: the form in which R75 writes both data bytes. -/
theorem lowByte_extract (v : Command) (k : Nat) :
    lowByte (v.extractLsb' k 7) = ((v >>> k) &&& 0x7F).setWidth 8 := by
  have hmask (n : Nat) : n &&& 0x7F = n % 128 := Nat.and_two_pow_sub_one_eq_mod n 7
  apply BitVec.eq_of_toNat_eq
  simp [lowByte_eq_setWidth, hmask]
  omega

/-- The two data bytes carry bits 13 to 0 and no other (R79): those of `V` are those of `V & 0x3FFF`, which is a
command of at most 14 bits. -/
theorem assemble_extract_eq_and (v : Command) :
    assemble (v.extractLsb' 7 7) (v.extractLsb' 0 7) = v &&& 0x3FFF := by
  have hle : v &&& 0x3FFF ≤ 0x3FFF := Nat.and_le_right
  have and_mask (d : DataBits) : d &&& 0x7F = d := BitVec.and_allOnes
  rw [← assemble_extract hle, BitVec.extractLsb'_and, BitVec.extractLsb'_and]
  exact (congrArg₂ assemble (and_mask _) (and_mask _)).symm

/-- Settles O50: the trailer is `crc3 >> 1` of the bytes before it, and the two data bytes assemble to `V` with bits
15 and 14 dropped. -/
theorem senderEncodingCarriesTheCommand : Obligations.SenderEncodingCarriesTheCommand := by
  intro v b1 b2 crc3
  set h := v.extractLsb' 7 7
  set l := v.extractLsb' 0 7
  have hb1 : lowByte h = b1 := lowByte_extract v 7
  have hb2 : lowByte l = b2 := lowByte_extract v 0
  have hcrc : frameCrc h l = crc3 := by rw [frameCrc, hb1, hb2]; rfl
  refine ⟨h, l, trailer h l, rfl, ?_, assemble_extract, assemble_extract_eq_and v⟩
  rw [Sys2Proof.frameBytes, ← frameCrc_shift, hb1, hb2, hcrc]
  rfl

/-- FRAME offers its four bytes before everything else that is listed, and does nothing else (R82). -/
theorem execFrame_eq_offerAll (h l c : DataBits) (s : State) :
    execFrame h l c s = .next (s.offerAll (Stimulus.bytes (Sys2Proof.frameBytes h l c))) := rfl

/-- Settles O51: the expansion's bytes, each written out as the input record of its `BYTE` statement. -/
theorem frameExpandsToItsFourBytes : Obligations.FrameExpandsToItsFourBytes :=
  execFrame_eq_offerAll

end Sys2Proof.Machine
end

section
/-! PROOF of O37: inside a frame `acc` and `crc` are what its bytes made them. `framer_step` keeps that row by row
(R110), and no other event of a cycle reaches the framer. -/

namespace Sys2Proof.Machine

/-- `Registers.InFrame` said of the framer, the only part of the registers it reads (R76, R101). -/
def Framer.InFrame (F : Framer) : Prop :=
  F.inPacket = true →
    (F.length = 0 → F.acc = 0 ∧ F.crc = markerCrc) ∧
    (F.length = 1 → ∃ h, F.acc = highPart h ∧ F.crc = crc7Update markerCrc (lowByte h)) ∧
    (F.length = 2 → ∃ h l, F.acc = assemble h l ∧ F.crc = frameCrc h l)

theorem inFrame_iff (S : Registers) : S.InFrame ↔ S.framer.InFrame := Iff.rfl

/-- Outside a frame nothing is claimed of `acc` and `crc`. -/
theorem Framer.inFrame_of_idle {F : Framer} (hF : F.inPacket = false) : F.InFrame :=
  fun hp => absurd (hF.symm.trans hp) Bool.false_ne_true

theorem framerStep_keeps_inFrame {F : Framer} (hF : F.InFrame) (c : Byte) :
    (framerStep F c).framer.InFrame := by
  cases byteRow F c with
  | marker =>
    rw [framerStep_marker]
    exact fun _ => ⟨fun _ => ⟨rfl, rfl⟩, by simp, by simp⟩
  | ignore c hp hc =>
    rw [framerStep_idle hp hc]
    exact hF
  | abort b hp hb =>
    rw [framerStep_high hp hb]
    exact Framer.inFrame_of_idle rfl
  | hi d hp hl =>
    obtain ⟨inC0, -, -⟩ := hF hp
    obtain ⟨-, hcrc⟩ := inC0 hl
    rw [framerStep_hi d hp hl, hcrc]
    exact fun _ => ⟨by simp, fun _ => ⟨d, rfl, rfl⟩, by simp⟩
  | lo d hp hl =>
    obtain ⟨-, inC1, -⟩ := hF hp
    obtain ⟨h, hacc, hcrc⟩ := inC1 hl
    rw [framerStep_lo d hp hl, hacc, hcrc]
    exact fun _ => ⟨by simp, by simp, fun _ => ⟨h, d, rfl, rfl⟩⟩
  | check d hp hl =>
    rw [framerStep_check d hp hl]
    exact Framer.inFrame_of_idle rfl
  | overrun d hp hl =>
    rw [framerStep_overrun d hp hl]
    exact Framer.inFrame_of_idle rfl

theorem foldl_framerStep_inFrame (bytes : List Byte) {F : Framer} (hF : F.InFrame) :
    (bytes.foldl (fun F c => (framerStep F c).framer) F).InFrame := by
  induction bytes generalizing F with
  | nil => exact hF
  | cons c bytes ih => exact ih (framerStep_keeps_inFrame hF c)

theorem afterCycle_keeps_inFrame {s : State} (hs : s.InFrame) (p : Input) : (s.afterCycle p).InFrame := by
  cases hr : p.rst
  · cases hb : s.booted
    · rw [afterCycle_boot hr hb]
      exact hs
    · rw [afterCycle_run hr hb, inFrame_iff, foldl_afterEvent_framer]
      exact foldl_framerStep_inFrame _ hs
  · rw [afterCycle_rst hr, inFrame_iff]
    exact Framer.inFrame_of_idle rfl

/-- Settles O37: a FRAME's expansion changes no register, and in a cycle the framer sees only the bytes. -/
theorem everyStepKeepsTheFrameInProgress : Obligations.EveryStepKeepsTheFrameInProgress := by
  intro s t hs h
  rcases step_registers_cases h with hreg | ⟨p, rfl⟩
  · rw [hreg]
    exact hs
  · exact afterCycle_keeps_inFrame (s := s.popStimulus) hs p

end Sys2Proof.Machine
end

section
/-! SUPPORT. One iteration of R100 as a remainder and a shift, what it does to each bit, and what the iterations
keep (R103). -/

namespace Sys2Proof.Machine

/-- XOR with `k` twice is no change. -/
theorem xor_xor_self {w : Nat} (k x : BitVec w) : k ^^^ (x ^^^ k) = x := by
  simp [BitVec.xor_comm x]

/-- The first half of an iteration of R100: XOR with the polynomial if the top bit is set. -/
def crcReduce (t : Byte) : Byte := if t.getLsbD 7 then t ^^^ 0x89 else t

theorem crcShift_eq (t : Byte) : crcShift t = crcReduce t <<< 1 := rfl

/-- No iteration loses a carry: the polynomial's own top bit clears the top bit (R103 (c)). -/
theorem crcReduce_getLsbD_seven (t : Byte) : (crcReduce t).getLsbD 7 = false := by
  unfold crcReduce
  split
  next h => simp [h]
  next h => simpa using h

/-- A shift left by one is undone where the top bit was clear. -/
theorem shiftLeft_shiftRight_of_top {x : Byte} (hx : x.getLsbD 7 = false) : x <<< 1 >>> 1 = x := by
  apply BitVec.eq_of_getLsbD_eq
  intro i hi
  rw [BitVec.getLsbD_ushiftRight, BitVec.getLsbD_shiftLeft, Nat.add_sub_cancel_left]
  obtain rfl | hne := eq_or_ne i 7
  · exact hx.symm
  · have hlt : 1 + i < 8 := by omega
    simp [hlt]

theorem crcShift_shiftRight (t : Byte) : crcShift t >>> 1 = crcReduce t :=
  shiftLeft_shiftRight_of_top (crcReduce_getLsbD_seven t)

/-- The conditional XOR is linear: the two conditions XOR as the bits they read. -/
theorem crcReduce_xor (a b : Byte) : crcReduce (a ^^^ b) = crcReduce a ^^^ crcReduce b := by
  unfold crcReduce
  rw [BitVec.getLsbD_xor]
  cases a.getLsbD 7 <;> cases b.getLsbD 7
  · rfl
  · exact BitVec.xor_assoc a b 0x89
  · show a ^^^ b ^^^ 0x89 = a ^^^ 0x89 ^^^ b
    ac_rfl
  · show a ^^^ b = a ^^^ 0x89 ^^^ (b ^^^ 0x89)
    rw [BitVec.xor_assoc a, xor_xor_self]

theorem crcShift_xor (a b : Byte) : crcShift (a ^^^ b) = crcShift a ^^^ crcShift b := by
  rw [crcShift_eq, crcReduce_xor, BitVec.shiftLeft_xor_distrib]
  rfl

/-- The iterations are linear over XOR (R103 (e)). -/
theorem crcShifts_xor (n : Nat) (a b : Byte) : crcShifts n (a ^^^ b) = crcShifts n a ^^^ crcShifts n b := by
  induction n generalizing a b with
  | zero => rfl
  | succ n ih => simp only [crcShifts, crcShift_xor, ih]

theorem crc7Update_zero_right (c : Byte) : crc7Update c 0x00 = crcShifts 8 c := by
  simp [crc7Update_eq_shifts]

theorem crc7Update_zero_left (d : Byte) : crc7Update 0x00 d = crcShifts 8 d := by
  simp [crc7Update_eq_shifts]

/-- Bit by bit, an iteration is a shift with the top bit fed back into bits 0 and 3 before it. -/
theorem crcShift_bits (t : Byte) :
    (crcShift t).getLsbD 0 = false ∧
    (crcShift t).getLsbD 1 = (t.getLsbD 0 ^^ t.getLsbD 7) ∧
    (crcShift t).getLsbD 2 = t.getLsbD 1 ∧
    (crcShift t).getLsbD 3 = t.getLsbD 2 ∧
    (crcShift t).getLsbD 4 = (t.getLsbD 3 ^^ t.getLsbD 7) ∧
    (crcShift t).getLsbD 5 = t.getLsbD 4 ∧
    (crcShift t).getLsbD 6 = t.getLsbD 5 ∧
    (crcShift t).getLsbD 7 = t.getLsbD 6 := by
  rw [crcShift_eq, crcReduce]
  cases t.getLsbD 7 <;> simp

/-- Bit 0 lost by a shift right was 0, so the shift left restores the byte in every width (R103 (g)). -/
theorem setWidth_shiftRight_shiftLeft {c : Byte} (hc : c.getLsbD 0 = false) (w : Nat) :
    (c >>> 1).setWidth w <<< 1 = c.setWidth w := by
  apply BitVec.eq_of_getLsbD_eq
  intro i hi
  cases i with
  | zero => rw [BitVec.getLsbD_setWidth, hc]; simp
  | succ i => simp [hi, Nat.add_comm]

/-- A byte shifted right by one is at most 0x7F (R103 (g)). -/
theorem shiftRight_one_le (c : Byte) : c >>> 1 ≤ 0x7F := by
  have hc := c.isLt
  rw [BitVec.le_def, BitVec.toNat_ushiftRight, Nat.shiftRight_eq_div_pow]
  change _ ≤ 0x7F
  omega

end Sys2Proof.Machine
end

section
/-! PROOF of O1, O2, O3: the network, the laws and the table of 40_crc.md. `crc7_update` is eight iterations on the
XOR of its operands, and each statement is one of those about the iterations. -/

namespace Sys2Proof.Machine

/-- Settles O1: the bits of the eighth iterate, each traced back through the iterations to the bits of `t`. -/
theorem crcUpdateIsTheNetwork : Obligations.CrcUpdateIsTheNetwork := by
  intro crc data t r
  have hr : r = crcShifts 8 t := crc7Update_eq_shifts crc data
  simp only [hr, crcShifts, crcShift_bits]
  simp [Bool.xor_comm, Bool.xor_left_comm]

/-- Settles O2: every law is one of the iterations, which are linear and leave bit 0 clear. -/
theorem crcUpdateObeysTheEngineLaws : Obligations.CrcUpdateObeysTheEngineLaws := by
  intro c d a b
  refine ⟨crc7Update_getLsbD_zero c d, crcReduce_getLsbD_seven c, ?_, ?_, ?_, ?_, shiftRight_one_le _, ?_⟩
  · rw [crc7Update_zero_right, crc7Update_eq_shifts]
  · rw [crc7Update_zero_left, crc7Update_eq_shifts]
  · rw [crc7Update_zero_right, crc7Update_zero_left, crc7Update_eq_shifts, crcShifts_xor]
  · rw [crc7Update_zero_left, crc7Update_zero_left, crc7Update_zero_left, crcShifts_xor]
  · simpa using setWidth_shiftRight_shiftLeft (crc7Update_getLsbD_zero c d) 8

/-- A table whose entry `x` is `crc7_update(0x00, x)` answers for all operands (R105). -/
theorem crcTable_lookup {table : List Nat}
    (htable : table = (List.range 256).map fun x => (crc7Update 0x00 (BitVec.ofNat 8 x)).toNat) (c d : Byte) :
    table[(c ^^^ d).toNat]? = some (crc7Update c d).toNat := by
  rw [htable, List.getElem?_map, List.getElem?_range (c ^^^ d).isLt, Option.map_some, BitVec.ofNat_toNat,
    BitVec.setWidth_eq, crc7Update_zero_left, crc7Update_eq_shifts]

/-- Settles O3: the printed list is `crc7_update(0x00, x)` for `x` from 0 to 255. -/
theorem crcUpdateIsTheTable : Obligations.CrcUpdateIsTheTable := by
  unfold Obligations.CrcUpdateIsTheTable
  exact crcTable_lookup (by decide +kernel)

end Sys2Proof.Machine
end

section
/-! PROOF of O4: division by `G(x) = x^7 + x^3 + 1` over GF(2). A word is a polynomial in every width, so that the
same lemmas serve the 16 bits of a step and the 32 bits of a frame. -/

namespace Sys2Proof.Machine

variable {w : Nat}

/-- `q(x) * G(x)` in `w` bits (R104). -/
def mulG (q : BitVec w) : BitVec w := q <<< 7 ^^^ q <<< 3 ^^^ q

theorem mulG_xor (p q : BitVec w) : mulG (p ^^^ q) = mulG p ^^^ mulG q := by
  simp only [mulG, BitVec.shiftLeft_xor_distrib]
  ac_rfl

theorem mulG_shiftLeft (q : BitVec w) (k : Nat) : mulG (q <<< k) = mulG q <<< k := by
  simp only [mulG, BitVec.shiftLeft_xor_distrib, ← BitVec.shiftLeft_add, Nat.add_comm]

/-- `0x89` is `G`. -/
theorem mulG_one : mulG 1#w = (0x89#8).setWidth w := by
  have power (k : Nat) : 1#w <<< k = BitVec.ofNat w (2 ^ k) := by
    apply BitVec.eq_of_toNat_eq
    simp [Nat.shiftLeft_eq, ← Nat.pow_mod]
  calc mulG 1#w = BitVec.ofNat w (2 ^ 7) ^^^ BitVec.ofNat w (2 ^ 3) ^^^ BitVec.ofNat w 1 := by
        rw [mulG, power, power]
    _ = BitVec.ofNat w 0x89 := by rw [← BitVec.ofNat_xor, ← BitVec.ofNat_xor]; rfl
    _ = (0x89#8).setWidth w := BitVec.ofNat_toNat w 0x89#8

/-- `m = q * G + r` with a quotient of at most `n` bits. -/
def CongruentModG (n : Nat) (m r : BitVec w) : Prop := ∃ q : BitVec w, q.toNat < 2 ^ n ∧ m = mulG q ^^^ r

namespace CongruentModG

variable {n k : Nat} {m m' r r' : BitVec w}

theorem refl (n : Nat) (m : BitVec w) : CongruentModG n m m :=
  ⟨0, by simp, by simp [mulG]⟩

theorem xor (h : CongruentModG n m r) (h' : CongruentModG n m' r') :
    CongruentModG n (m ^^^ m') (r ^^^ r') := by
  obtain ⟨q, hq, rfl⟩ := h
  obtain ⟨q', hq', rfl⟩ := h'
  refine ⟨q ^^^ q', by rw [BitVec.toNat_xor]; exact Nat.xor_lt_two_pow hq hq', ?_⟩
  rw [mulG_xor]
  ac_rfl

theorem trans (h : CongruentModG n m r) (h' : CongruentModG n r r') : CongruentModG n m r' := by
  obtain ⟨q, hq, rfl⟩ := h
  obtain ⟨q', hq', rfl⟩ := h'
  refine ⟨q ^^^ q', by rw [BitVec.toNat_xor]; exact Nat.xor_lt_two_pow hq hq', ?_⟩
  rw [mulG_xor, BitVec.xor_assoc]

theorem mono (h : CongruentModG n m r) (hk : n ≤ k) : CongruentModG k m r := by
  obtain ⟨q, hq, hm⟩ := h
  exact ⟨q, hq.trans_le (Nat.pow_le_pow_right (by decide) hk), hm⟩

theorem shiftLeft (h : CongruentModG n m r) (k : Nat) : CongruentModG (n + k) (m <<< k) (r <<< k) := by
  obtain ⟨q, hq, rfl⟩ := h
  refine ⟨q <<< k, ?_, by rw [mulG_shiftLeft, BitVec.shiftLeft_xor_distrib]⟩
  calc (q <<< k).toNat ≤ q.toNat <<< k := by rw [BitVec.toNat_shiftLeft]; exact Nat.mod_le _ _
    _ < 2 ^ (n + k) := by
      rw [Nat.shiftLeft_eq, Nat.pow_add]
      exact Nat.mul_lt_mul_of_pos_right hq (Nat.two_pow_pos k)

end CongruentModG

/-- The conditional XOR of an iteration is the remainder of a byte by `G`. -/
theorem crcReduce_congruent (t : Byte) : CongruentModG 1 (t.setWidth w) ((crcReduce t).setWidth w) := by
  unfold crcReduce
  split
  · refine ⟨1#w, ?_, ?_⟩
    · exact (Nat.mod_le 1 (2 ^ w)).trans_lt Nat.one_lt_two
    · rw [mulG_one, BitVec.setWidth_xor]
      exact (xor_xor_self _ _).symm
  · exact .refl 1 _

/-- An iteration multiplies by `x` modulo `G`. -/
theorem crcShift_congruent (t : Byte) :
    CongruentModG 2 (t.setWidth w <<< 1) ((crcShift t).setWidth w) := by
  have hzero : (crcShift t).getLsbD 0 = false := (crcShift_bits t).1
  rw [← setWidth_shiftRight_shiftLeft hzero, crcShift_shiftRight]
  exact (crcReduce_congruent t).shiftLeft 1

/-- `n` iterations multiply by `x^n` modulo `G`. -/
theorem crcShifts_congruent (n : Nat) (t : Byte) :
    CongruentModG (n + 1) (t.setWidth w <<< n) ((crcShifts n t).setWidth w) := by
  induction n generalizing t with
  | zero => simpa [crcShifts] using CongruentModG.refl 1 (t.setWidth w)
  | succ n ih =>
    have first := (crcShift_congruent (w := w) t).shiftLeft n
    rw [← BitVec.shiftLeft_add, Nat.add_comm 1, Nat.add_comm 2] at first
    exact first.trans ((ih (crcShift t)).mono (Nat.le_succ _))

/-- One call of the engine: seven iterations and the remainder of the last give `t(x) * x^7` modulo `G` (R104). -/
theorem crc7Update_congruent (c d : Byte) :
    CongruentModG 8 ((c ^^^ d).setWidth w <<< 7) ((crc7Update c d >>> 1).setWidth w) := by
  have last : crc7Update c d >>> 1 = crcReduce (crcShifts 7 (c ^^^ d)) := crcShift_shiftRight _
  rw [last]
  exact (crcShifts_congruent 7 _).trans ((crcReduce_congruent _).mono (by decide))

/-- The same with the running remainder `c >> 1` raised by a byte's eight places (R104). -/
theorem crc7Update_congruent_of_remainder {c : Byte} (hc : c.getLsbD 0 = false) (d : Byte) :
    CongruentModG 8 ((c >>> 1).setWidth w <<< 8 ^^^ d.setWidth w <<< 7) ((crc7Update c d >>> 1).setWidth w) := by
  have operand : (c >>> 1).setWidth w <<< 8 ^^^ d.setWidth w <<< 7 = (c ^^^ d).setWidth w <<< 7 := by
    rw [BitVec.shiftLeft_add _ 1 7, setWidth_shiftRight_shiftLeft hc, BitVec.setWidth_xor,
      BitVec.shiftLeft_xor_distrib]
  rw [operand]
  exact crc7Update_congruent c d

/-- A byte appended to a message, in every width. -/
theorem setWidth_append_byte {v : Nat} (m : BitVec v) (d : Byte) :
    (m ++ d).setWidth w = m.setWidth w <<< 8 ^^^ d.setWidth w := by
  apply BitVec.eq_of_getLsbD_eq
  intro i hi
  rcases Nat.lt_or_ge i 8 with h | h
  · simp [BitVec.getLsbD_append, hi, h]
  · have : i - 8 < w := by omega
    have : ¬ i < 8 := by omega
    simp [BitVec.getLsbD_append, *]

/-- Folding a byte into the CRC of a message gives the CRC of the message with the byte appended (R101). -/
theorem CongruentModG.append {n v : Nat} {m : BitVec v} {c : Byte} (hc : c.getLsbD 0 = false)
    (h : CongruentModG n (m.setWidth w <<< 7) ((c >>> 1).setWidth w)) (d : Byte) :
    CongruentModG (n + 8) ((m ++ d).setWidth w <<< 7) ((crc7Update c d >>> 1).setWidth w) := by
  have message : (m ++ d).setWidth w <<< 7 = m.setWidth w <<< 7 <<< 8 ^^^ d.setWidth w <<< 7 := by
    rw [setWidth_append_byte, BitVec.shiftLeft_xor_distrib, ← BitVec.shiftLeft_add, ← BitVec.shiftLeft_add]
  rw [message]
  exact ((h.shiftLeft 8).xor (.refl _ _)).trans ((crc7Update_congruent_of_remainder hc d).mono (Nat.le_add_left 8 n))

/-- The three calls of R101 divide the marker and the data bytes by `G`. -/
theorem trailer_congruent (h l : DataBits) :
    CongruentModG 24 ((0x80#8 ++ lowByte h ++ lowByte l).setWidth w <<< 7) ((trailer h l).setWidth w) := by
  have hmarker : CongruentModG 8 ((0x80#8).setWidth w <<< 7) ((markerCrc >>> 1).setWidth w) :=
    crc7Update_congruent 0x00 0x80
  have hhigh := hmarker.append (crc7Update_getLsbD_zero _ _) (lowByte h)
  have hlow := hhigh.append (crc7Update_getLsbD_zero _ _) (lowByte l)
  have htrailer : (frameCrc h l >>> 1).setWidth w = (trailer h l).setWidth w := by
    rw [frameCrc_shift, lowByte_eq_setWidth, BitVec.setWidth_setWidth (by omega)]
  rw [← htrailer]
  exact hlow

/-- Settles O4: the quotients of the two congruences, in 16 and in 32 bits. -/
theorem trailerIsTheRemainderOfDivisionByG : Obligations.TrailerIsTheRemainderOfDivisionByG := by
  constructor
  · intro c d hc
    obtain ⟨q, hq, h⟩ := crc7Update_congruent_of_remainder (w := 16) hc d
    exact ⟨shiftRight_one_le _, q, Nat.le_of_lt_succ hq, h⟩
  · intro h l
    obtain ⟨q, hq, h⟩ := trailer_congruent (w := 32) h l
    exact ⟨q, Nat.le_of_lt_succ hq, h⟩

end Sys2Proof.Machine
end

section
/-! SUPPORT. A clock cycle as the spec's whole function `step(S, in)` of R147: what Tick and Poll leave before the
byte, and then the byte by `framer_step`. -/

namespace Sys2Proof.Machine

/-- A RUN cycle up to its byte: the tick, if there is one, and the Poll (R147). -/
def State.beforeByte (s : State) (p : Input) : State :=
  (if p.tick then (s.beginCycle p).countTick else s.beginCycle p).afterPoll

theorem foldl_events_eq (s : State) (p : Input) :
    p.events.foldl State.afterEvent (s.beginCycle p) =
      if p.rxValid then (s.beforeByte p).afterByte p.rxData else s.beforeByte p := by
  unfold Input.events State.beforeByte
  cases p.tick <;> cases p.rxValid <;> rfl

@[simp] theorem beforeByte_framer (s : State) (p : Input) : (s.beforeByte p).framer = s.framer := by
  rw [State.beforeByte, afterPoll_framer]
  split <;> rfl

/-- Tick and Poll leave `cd1`, and the outputs as they were or, with `cd1` 0, off (R140, R141). -/
theorem beforeByte_eq (s : State) (p : Input) :
    s.beforeByte p =
      { s with
        countdown := tickedCountdown s.toRegisters p
        lineEn := if tickedCountdown s.toRegisters p == 0 then 0 else s.lineEn
        aux := if tickedCountdown s.toRegisters p == 0 then false else s.aux
        out := { Output.quiet with tickReload := p.tick, idle := !p.rst && s.booted && !p.rxValid }
        cycle := s.cycle + 1 } := by
  have ticked : (if p.tick then (s.beginCycle p).countTick else s.beginCycle p) =
      { s with
        countdown := tickedCountdown s.toRegisters p
        out := { Output.quiet with tickReload := p.tick, idle := !p.rst && s.booted && !p.rxValid }
        cycle := s.cycle + 1 } := by
    unfold tickedCountdown
    cases p.tick <;> rfl
  rw [State.beforeByte, ticked, State.afterPoll]
  by_cases h0 : tickedCountdown s.toRegisters p = 0
  · simp only [h0]
    rfl
  · simp only [h0, beq_iff_eq, if_false]

/-- The cycle's operations give what the spec's `step(S, in)` says; of the model's own fields the stimulus stands and
the cycle is counted. -/
theorem afterCycle_eq_coreStep (s : State) (p : Input) :
    s.afterCycle p =
      { toRegisters := (coreStep s.toRegisters p).1
        out := (coreStep s.toRegisters p).2
        stimulus := s.stimulus
        cycle := s.cycle + 1 } := by
  cases hr : p.rst
  · cases hb : s.booted
    · rw [afterCycle_boot hr hb, coreStep, hr, hb, State.beginCycle, hr, hb]
      rfl
    · rw [afterCycle_run hr hb, foldl_events_eq, coreStep, hr, hb]
      cases hv : p.rxValid
      · simp only [beforeByte_eq, hr, hb, hv]
        rfl
      · simp only [State.afterByte, beforeByte_framer]
        cases (framerStep s.framer p.rxData).accept <;> simp only [beforeByte_eq, hr, hb, hv] <;> rfl
  · rw [afterCycle_rst hr, coreStep, hr]
    rfl

theorem step_offer_eq_coreStep (s : State) (p : Input) :
    step (s.offer p) = .next
      { toRegisters := (coreStep s.toRegisters p).1
        out := (coreStep s.toRegisters p).2
        stimulus := s.stimulus
        cycle := s.cycle + 1 } := by
  rw [step_offer, runCycle_eq, afterCycle_eq_coreStep]

end Sys2Proof.Machine
end

section
/-! SUPPORT. When a byte is accepted, and the spec's `step(S, in)` case by case: reset, BOOT, and in RUN what each
field becomes. -/

namespace Sys2Proof.Machine

/-- Acceptance is a matching trailer in C2 and nothing else (R110, R116). -/
theorem framerStep_accept_iff (F : Framer) (c : Byte) :
    (framerStep F c).accept = true ↔ F.inPacket = true ∧ F.length = 2 ∧ c = F.crc >>> 1 := by
  constructor
  · intro h
    cases byteRow F c with
    | marker => cases h
    | ignore c hp hc => rw [framerStep_idle hp hc] at h; cases h
    | abort b hp hb => rw [framerStep_high hp hb] at h; cases h
    | hi d hp hl => rw [framerStep_hi d hp hl] at h; cases h
    | lo d hp hl => rw [framerStep_lo d hp hl] at h; cases h
    | check d hp hl =>
      rw [framerStep_check d hp hl] at h
      exact ⟨hp, hl, (beq_iff_eq.mp h).symm⟩
    | overrun d hp hl => rw [framerStep_overrun d hp hl] at h; cases h
  · rintro ⟨hp, hl, rfl⟩
    rw [shift_eq_lowByte, framerStep_check _ hp hl, trailerMatches, ← shift_eq_lowByte]
    exact beq_self_eq_true _

theorem framerStep_framer_of_accept {F : Framer} {c : Byte} (h : (framerStep F c).accept = true) :
    (framerStep F c).framer = { F with inPacket := false, length := 0 } := by
  obtain ⟨hp, hl, rfl⟩ := (framerStep_accept_iff F c).mp h
  rw [shift_eq_lowByte, framerStep_check _ hp hl]

theorem accepts_iff (S : Registers) (p : Input) :
    accepts S p = true ↔
      p.rst = false ∧ S.booted = true ∧ p.rxValid = true ∧ (framerStep S.framer p.rxData).accept = true := by
  simp [accepts, and_assoc]

theorem accepts_byte (S : Registers) (c : Byte) :
    accepts S (.byte c) = (S.booted && (framerStep S.framer c).accept) := by
  simp [accepts, Input.byte]

theorem coreStep_rst {S : Registers} {p : Input} (hr : p.rst = true) :
    coreStep S p = (Registers.reset, Output.quiet) := if_pos hr

theorem coreStep_boot {S : Registers} {p : Input} (hr : p.rst = false) (hb : S.booted = false) :
    (coreStep S p).1 = { S with booted := true } := by
  simp only [coreStep, hr, hb]
  rfl

theorem coreStep_booted {S : Registers} {p : Input} (hr : p.rst = false) (hb : S.booted = true) :
    (coreStep S p).1.booted = true := by
  simp only [coreStep, hr, hb]
  rfl

theorem coreStep_framer {S : Registers} {p : Input} (hr : p.rst = false) (hb : S.booted = true) :
    (coreStep S p).1.framer = if p.rxValid then (framerStep S.framer p.rxData).framer else S.framer := by
  simp only [coreStep, hr, hb]
  rfl

theorem coreStep_out {S : Registers} {p : Input} (hr : p.rst = false) (hb : S.booted = true) :
    (coreStep S p).2 =
      { rxTake := p.rxValid, wdtArm := false, wdtPet := p.rxValid, tickReload := p.tick, idle := !p.rxValid } := by
  simp only [coreStep, hr, hb]
  rfl

/-- In a cycle that accepts, the ACCEPT action decides the outputs and the countdown (R145). -/
theorem coreStep_of_accepts {S : Registers} {p : Input} (h : accepts S p = true) :
    (coreStep S p).1 =
      { S with
        inPacket := false, length := 0, countdown := config.timeoutTicks
        lineEn := (apply S.acc).1, aux := (apply S.acc).2 } := by
  obtain ⟨hr, hb, hv, ha⟩ := (accepts_iff S p).mp h
  simp only [coreStep, hr, hb, hv, ha, framerStep_framer_of_accept ha]
  rfl

/-- In a RUN cycle that does not accept, only the tick and the Poll write the outputs and the countdown. -/
theorem coreStep_of_not_accepts {S : Registers} {p : Input} (hr : p.rst = false) (hb : S.booted = true)
    (h : accepts S p = false) :
    (coreStep S p).1.countdown = tickedCountdown S p ∧
    (coreStep S p).1.lineEn = (if tickedCountdown S p == 0 then 0 else S.lineEn) ∧
    (coreStep S p).1.aux = (if tickedCountdown S p == 0 then false else S.aux) := by
  have ha : (if p.rxValid then (framerStep S.framer p.rxData).accept else false) = false := by
    simpa [accepts, hr, hb] using h
  simp only [coreStep, hr, hb, ha]
  exact ⟨rfl, rfl, rfl⟩

theorem tickedCountdown_le (S : Registers) (p : Input) : tickedCountdown S p ≤ S.countdown := by
  unfold tickedCountdown
  split
  · exact countTick_countdown_le { State.reset with toRegisters := S }
  · exact BitVec.le_refl _

end Sys2Proof.Machine
end

section
/-! SUPPORT. CHECK as one equation, the two parts of a command kept apart, and what a run from reset has in `acc`. -/

namespace Sys2Proof.Machine

/-- CHECK goes to IDLE, and takes the ACCEPT action if the trailer matches (R115, R145). -/
theorem execCheck_eq (c : DataBits) (s : State) :
    execCheck c s = .next
      (if s.crc >>> 1 = lowByte c then
        (s.takeByte.closeFrame.outWrite (apply s.acc).1 (apply s.acc).2).reload
      else s.takeByte.closeFrame) := by
  rcases execCheck_cases c s with ⟨hm, h⟩ | ⟨hm, h⟩
  · rw [h, acceptCommand_eq, if_pos (beq_iff_eq.mp hm)]
  · rw [h, if_neg (beq_eq_false_iff_ne.mp hm)]

/-- No trailer is the start marker (R74). -/
theorem shiftRight_ne_marker (crc : Byte) : crc >>> 1 ≠ 0x80 := by
  rw [shift_eq_lowByte]
  exact lowByte_ne_marker _

theorem highPart_extract_hi (h : DataBits) : (highPart h).extractLsb' 7 7 = h := by
  revert h; decide

theorem highPart_extract_lo (h : DataBits) : (highPart h).extractLsb' 0 7 = 0#7 := by
  revert h; decide

theorem lowPart_extract_hi (l : DataBits) : (lowPart l).extractLsb' 7 7 = 0#7 := by
  revert l; decide

theorem lowPart_extract_lo (l : DataBits) : (lowPart l).extractLsb' 0 7 = l := by
  revert l; decide

/-- Neither data byte writes the other's bits of the command (R76). -/
theorem assemble_extract_parts (h l : DataBits) :
    (assemble h l).extractLsb' 7 7 = h ∧ (assemble h l).extractLsb' 0 7 = l := by
  constructor
  · rw [assemble, BitVec.extractLsb'_or, highPart_extract_hi, lowPart_extract_hi, BitVec.or_zero]
  · rw [assemble, BitVec.extractLsb'_or, highPart_extract_lo, lowPart_extract_lo, BitVec.zero_or]

theorem Reachable.inFrame {s : State} (hs : Reachable s) : s.InFrame :=
  hs.induction_registers Registers.InFrame (Framer.inFrame_of_idle (F := Registers.reset.framer) rfl)
    everyStepKeepsTheFrameInProgress

theorem Reachable.acc_of_C0 {s : State} (hs : Reachable s) (h0 : s.fstate = FState.collecting 0) :
    s.acc = 0 := by
  obtain ⟨inC0, -, -⟩ := hs.inFrame (congrArg FState.inPacket h0)
  exact (inC0 (congrArg FState.length h0)).1

theorem Reachable.acc_of_C1 {s : State} (hs : Reachable s) (h1 : s.fstate = FState.collecting 1) :
    ∃ h, s.acc = highPart h := by
  obtain ⟨-, inC1, -⟩ := hs.inFrame (congrArg FState.inPacket h1)
  obtain ⟨h, hacc, -⟩ := inC1 (congrArg FState.length h1)
  exact ⟨h, hacc⟩

theorem Reachable.length_ne_three {s : State} (hs : Reachable s) : s.length ≠ 3 :=
  ((canonicalFstate_iff _).mp hs.inv.bounded.fstate).2

end Sys2Proof.Machine
end

section
/-! PROOF of O5, O6, O7, O8, O9, O12, O13, O14: the byte operations one by one (R111 to R119), and all of them
against `framer_step` (R110). The decoder's and `framer_step`'s parts are the row's equations; the effect of `exec` is
its meaning written out. -/

namespace Sys2Proof.Machine

/-- Settles O5: the marker's row holds in every framer state, and its effect overwrites all it writes. -/
theorem markerOpensAFrameFromAnyState : Obligations.MarkerOpensAFrameFromAnyState :=
  ⟨decodeByte_marker, fun _ => rfl, markerCrc_eq, shiftRight_ne_marker, fun _ => rfl,
    fun F => by rw [framerStep_marker]; exact ⟨rfl, rfl⟩,
    by rw [framerStep_marker, markerCrc_eq]; rfl⟩

/-- Settles O6: the row of IDLE. -/
theorem ignoreChangesNoRegister : Obligations.IgnoreChangesNoRegister :=
  ⟨fun _ _ => decodeByte_idle, fun _ _ => rfl, fun _ _ => framerStep_idle, framerStep_idle rfl (by decide)⟩

/-- Settles O7: the row of C0; from reset `acc` is 0 there by what R101 keeps inside a frame. -/
theorem hiStoresTheHighPart : Obligations.HiStoresTheHighPart := by
  refine ⟨fun h => decodeByte_low _ h, fun _ _ => rfl,
    fun h => ⟨highPart_extract_hi h, highPart_extract_lo h, highPart_extract_high h⟩, ?_,
    fun _ => Reachable.acc_of_C0, by decide, by decide, by decide, by decide, framerStep_hi 0x02 rfl rfl⟩
  intro F hp hl h
  have hstep := framerStep_hi h hp hl
  exact ⟨congrArg FramerResult.accept hstep, congrArg FramerResult.label hstep⟩

/-- Settles O8: the row of C1; on a high part the OR assembles the command, and from reset `acc` is one there. -/
theorem loOrsInTheLowPart : Obligations.LoOrsInTheLowPart := by
  refine ⟨fun l => decodeByte_low _ l, ?_, ?_, ?_, ?_, framerStep_lo 0x55 rfl rfl⟩
  · intro l s
    rw [show (0#1 ++ l : Byte) = lowByte l from rfl, lowByte_and_setWidth]
    rfl
  · intro h l s t hacc hexec
    have ht : t.acc = assemble h l := by
      cases hexec
      exact congrArg (· ||| lowPart l) hacc
    rw [ht]
    exact ⟨rfl, assemble_extract_parts h l⟩
  · intro F hp hl l
    have hstep := framerStep_lo l hp hl
    exact ⟨congrArg FramerResult.accept hstep, congrArg FramerResult.label hstep⟩
  · intro s hs h1
    obtain ⟨h, hacc⟩ := hs.acc_of_C1 h1
    exact ⟨(congrArg _ hacc).trans (highPart_extract_lo h), h, hacc⟩

/-- Settles O9: the row of C2; the invariant of R37 keeps `length` from 3. -/
theorem checkComparesTheTrailerAndReturnsToIdle : Obligations.CheckComparesTheTrailerAndReturnsToIdle := by
  refine ⟨fun c => decodeByte_low _ c, execCheck_eq, ?_, fun _ => Reachable.length_ne_three⟩
  intro F hp hl c
  rw [framerStep_accept_iff]
  exact ⟨fun ⟨_, _, h⟩ => h.symm, fun h => ⟨hp, hl, h.symm⟩⟩

/-- Settles O12: the row of a HIGH byte inside a frame, which does not read `length`. -/
theorem abortDiscardsTheFrameSilently : Obligations.AbortDiscardsTheFrameSilently :=
  ⟨fun F _ hp hb => (decodeByte_high F hb).trans (if_pos hp), fun _ _ => rfl, fun _ _ => framerStep_high,
    framerStep_high (b := 0x7F) rfl (by decide)⟩

/-- Settles O13: the row of COLLECTING(3), which does not compare. -/
theorem overrunDiscardsTheFrame : Obligations.OverrunDiscardsTheFrame :=
  ⟨fun b => decodeByte_low _ b, fun _ _ => rfl, framerStep_overrun 0x03 rfl rfl⟩

/-- Settles O14: a byte as one equation, read field by field on both values of `accept`. -/
theorem byteOperationsRefineFramerStep : Obligations.ByteOperationsRefineFramerStep := by
  intro s c
  refine ⟨s.afterByte c, exec_decodeByte s c, afterByte_framer s c, ?_⟩
  unfold State.afterByte
  cases (framerStep s.framer c).accept
  · exact ⟨⟨rfl, rfl, rfl⟩, rfl, rfl, rfl, rfl⟩
  · exact ⟨⟨rfl, rfl, rfl⟩, rfl, rfl, rfl, rfl⟩

end Sys2Proof.Machine
end

section
/-! PROOF of O10 and O15: one cycle from every state. What it does to the outputs and the countdown turns on
`accepts`, what it does to the framer on the byte. -/

namespace Sys2Proof.Machine

/-- Settles O10: an accepting cycle's registers do not depend on the outputs and the countdown before it; any other
cycle writes them by its tick and its Poll only, or is BOOT and does not write them. -/
theorem onlyAcceptanceDrivesOutputsOrRaisesTheCountdown :
    Obligations.OnlyAcceptanceDrivesOutputsOrRaisesTheCountdown := by
  refine ⟨?_, ?_, ?_, framerStep_check 0x03 rfl rfl⟩
  · intro s p ha
    refine ⟨_, step_offer_eq_coreStep s p, ?_⟩
    rw [coreStep_of_accepts ha]
    exact ⟨rfl, rfl, rfl, rfl, rfl, rfl⟩
  · intro s p hr ha
    refine ⟨_, step_offer_eq_coreStep s p, ?_⟩
    cases hb : s.booted
    · rw [coreStep_boot hr hb]
      exact ⟨BitVec.le_refl _, .inl ⟨rfl, rfl⟩⟩
    · obtain ⟨hcountdown, hlines, haux⟩ := coreStep_of_not_accepts hr hb ha
      rw [hcountdown, hlines, haux]
      refine ⟨tickedCountdown_le _ p, ?_⟩
      split
      · exact .inr ⟨rfl, rfl⟩
      · exact .inl ⟨rfl, rfl⟩
  · intro s u t v p q hp hq hacc ht hv
    rw [step_offer_eq_coreStep, coreStep_of_accepts hp] at ht
    rw [step_offer_eq_coreStep, coreStep_of_accepts hq, ← hacc] at hv
    cases ht
    cases hv
    exact ⟨rfl, rfl, rfl, rfl⟩

/-- The control state of a framer (R23). -/
def Framer.fstate (F : Framer) : FState := { inPacket := F.inPacket, length := F.length }

/-- Settles O15: the byte's class picks the column, and `framer_step`'s row for it and the old `fstate` the cell. -/
theorem framerTransitionTable : Obligations.FramerTransitionTable := by
  intro s p hr hb
  refine ⟨_, step_offer_eq_coreStep s p, fun hv => ?_, fun hv => ?_⟩
  · exact (coreStep_framer hr hb).trans (by rw [hv]; rfl)
  · have hframer := coreStep_framer hr hb
    rw [hv, if_pos rfl] at hframer
    refine (congrArg Framer.fstate hframer).trans ?_
    have inPacket_eq : s.inPacket = s.framer.inPacket := rfl
    have length_eq : s.length = s.framer.length := rfl
    rcases byte_cases p.rxData with hc | ⟨b, hb, hc⟩ | ⟨d, hc⟩
    all_goals rw [hc]
    · rfl
    · rw [byteClass_high hb, inPacket_eq]
      cases hp : s.framer.inPacket
      · rw [framerStep_idle hp (highByte_ne_marker hb)]
        rfl
      · rw [framerStep_high hp hb]
        rfl
    · rw [byteClass_low, inPacket_eq, length_eq]
      cases hp : s.framer.inPacket
      · rw [framerStep_idle hp (lowByte_ne_marker d)]
        rfl
      · rcases length_cases s.framer.length with hl | hl | hl | hl <;> rw [hl]
        · rw [framerStep_hi d hp hl, hp]
          rfl
        · rw [framerStep_lo d hp hl, hp]
          rfl
        · rw [framerStep_check d hp hl]
          rfl
        · rw [framerStep_overrun d hp hl]
          rfl

end Sys2Proof.Machine
end

section
/-! SUPPORT. Runs of offered cycles: as many steps as cycles are their fold, and the registers go as the spec's own
`step` says. -/

namespace Sys2Proof.Machine

/-- A cycle does not look at what is offered after it. -/
theorem afterCycle_offerAll (s : State) (p : Input) (xs : List Stimulus) :
    (s.offerAll xs).afterCycle p = (s.afterCycle p).offerAll xs := by
  rw [afterCycle_eq_coreStep, afterCycle_eq_coreStep]
  rfl

theorem runSteps_cycles (ps : List Input) (s : State) :
    runSteps ps.length (s.offerAll (ps.map .cycle)) = .next (ps.foldl State.afterCycle s) := by
  induction ps generalizing s with
  | nil => rfl
  | cons p ps ih =>
    show andThen (step ((s.offerAll (ps.map .cycle)).offer p)) (runSteps ps.length) = _
    rw [step_offer, runCycle_eq, andThen_next, afterCycle_offerAll, ih, List.foldl_cons]

theorem foldl_afterCycle_registers (ps : List Input) (s : State) :
    (ps.foldl State.afterCycle s).toRegisters = coreRun ps s.toRegisters := by
  induction ps generalizing s with
  | nil => rfl
  | cons p ps ih => rw [List.foldl_cons, ih, afterCycle_eq_coreStep, coreRun]

theorem foldl_afterCycle_stimulus (ps : List Input) (s : State) :
    (ps.foldl State.afterCycle s).stimulus = s.stimulus := by
  induction ps generalizing s with
  | nil => rfl
  | cons p ps ih => rw [List.foldl_cons, ih, afterCycle_eq_coreStep]

theorem foldl_afterCycle_cycle (ps : List Input) (s : State) :
    (ps.foldl State.afterCycle s).cycle = s.cycle + ps.length := by
  induction ps generalizing s with
  | nil => rfl
  | cons p ps ih =>
    rw [List.foldl_cons, ih, afterCycle_eq_coreStep]
    exact Nat.succ_add_eq_add_succ _ _

/-- The whole state after a run, from its last cycle: only registers and count remember the cycles before. -/
theorem foldl_afterCycle_concat (ps : List Input) (last : Input) (s : State) :
    (ps ++ [last]).foldl State.afterCycle s =
      { toRegisters := (coreStep (coreRun ps s.toRegisters) last).1
        out := (coreStep (coreRun ps s.toRegisters) last).2
        stimulus := s.stimulus
        cycle := s.cycle + (ps.length + 1) } := by
  rw [List.foldl_append, List.foldl_cons, List.foldl_nil, afterCycle_eq_coreStep, foldl_afterCycle_registers,
    foldl_afterCycle_stimulus, foldl_afterCycle_cycle, Nat.add_assoc]

/-- The steps of `BYTE` statements run their cycles in order (R81). -/
theorem runSteps_bytes (bs : List Byte) (s : State) :
    runSteps bs.length (s.offerAll (Stimulus.bytes bs)) =
      .next ((bs.map Input.byte).foldl State.afterCycle s) := by
  have hbytes : Stimulus.bytes bs = (bs.map Input.byte).map .cycle := by rw [List.map_map]; rfl
  rw [hbytes, ← List.length_map (f := Input.byte), runSteps_cycles]

/-- A FRAME item takes one step of its own, then runs as its four bytes (R82). -/
theorem runSteps_succ_frame (n : Nat) (h l c : DataBits) (s : State) :
    runSteps (n + 1) (s.offerAll [.frame h l c]) = runSteps n (s.offerAll (Stimulus.frameBytes h l c)) := rfl

/-- A run of RUN cycles without reset stays in RUN, and its framer sees only the bytes consumed. -/
theorem coreRun_framer {ps : List Input} {S : Registers} (hr : ∀ p ∈ ps, p.rst = false)
    (hb : S.booted = true) :
    (coreRun ps S).booted = true ∧
    (coreRun ps S).framer = (consumed ps).foldl (fun F c => (framerStep F c).framer) S.framer := by
  induction ps generalizing S with
  | nil => exact ⟨hb, rfl⟩
  | cons p ps ih =>
    have hp : p.rst = false := hr p List.mem_cons_self
    obtain ⟨hbooted, hframer⟩ := ih (fun q hq => hr q (List.mem_cons_of_mem p hq)) (coreStep_booted hp hb)
    refine ⟨hbooted, ?_⟩
    rw [coreRun, hframer, coreStep_framer hp hb]
    cases hv : p.rxValid <;> simp [consumed, hv]

end Sys2Proof.Machine
end

section
/-! PROOF of O39 and O40: a well-formed frame is accepted. The cycles before the trailer bring the framer to C2 with
the command and `crc3`, whatever falls between its bytes, and the trailer's cycle overrides the rest. -/

namespace Sys2Proof.Machine

/-- The framer that waits for the trailer of a frame with data bits `h` and `l`: C2 (R76, R101). -/
def Framer.awaitingTrailer (h l : DataBits) : Framer :=
  { inPacket := true, length := 2, acc := assemble h l, crc := frameCrc h l }

/-- The registers after the cycle of the trailer of a well-formed frame (R115, R145). -/
def Registers.accepted (h l : DataBits) : Registers where
  inPacket := false
  length := 0
  acc := assemble h l
  crc := frameCrc h l
  countdown := config.timeoutTicks
  lineEn := (apply (assemble h l)).1
  aux := (apply (assemble h l)).2
  booted := true

theorem framerStep_awaitingTrailer_accept_iff (h l : DataBits) (c : Byte) :
    (framerStep (Framer.awaitingTrailer h l) c).accept = true ↔ c = lowByte (trailer h l) := by
  rw [framerStep_accept_iff, ← frameCrc_shift]
  exact ⟨fun ⟨_, _, hc⟩ => hc, fun hc => ⟨rfl, rfl, hc⟩⟩

theorem coreStep_trailer {S : Registers} {p : Input} {h l : DataBits} (hb : S.booted = true)
    (hF : S.framer = Framer.awaitingTrailer h l) (hr : p.rst = false) (hv : p.rxValid = true)
    (hd : p.rxData = lowByte (trailer h l)) : (coreStep S p).1 = Registers.accepted h l := by
  have haccepts : accepts S p = true := by
    rw [accepts_iff, hF, framerStep_awaitingTrailer_accept_iff]
    exact ⟨hr, hb, hv, hd⟩
  have hacc : S.acc = assemble h l := congrArg Framer.acc hF
  have hcrc : S.crc = frameCrc h l := congrArg Framer.crc hF
  rw [coreStep_of_accepts haccepts, hacc, hcrc, hb]
  rfl

/-- The whole state after a run without reset whose bytes are a well-formed frame and whose last cycle takes the
trailer (R121 (a), R60). -/
theorem foldl_afterCycle_frame {ps : List Input} {last : Input} {s : State} {h l : DataBits}
    (hb : s.booted = true) (hr : ∀ p ∈ ps ++ [last], p.rst = false) (hv : last.rxValid = true)
    (hbytes : consumed (ps ++ [last]) = Sys2Proof.frameBytes h l (trailer h l)) :
    (ps ++ [last]).foldl State.afterCycle s =
      { toRegisters := Registers.accepted h l
        out := { rxTake := true, wdtArm := false, wdtPet := true, tickReload := last.tick, idle := false }
        stimulus := s.stimulus
        cycle := s.cycle + (ps.length + 1) } := by
  have hsplit : consumed ps ++ [last.rxData] =
      [config.startMarker, lowByte h, lowByte l] ++ [lowByte (trailer h l)] := by
    simpa [consumed, hv, Sys2Proof.frameBytes] using hbytes
  obtain ⟨hdata, htrailer⟩ := List.append_inj' hsplit rfl
  obtain ⟨hbooted, hframer⟩ := coreRun_framer (fun p hp => hr p (List.mem_append_left _ hp)) hb
  rw [hdata] at hframer
  have hC2 := hframer.trans (foldl_framerStep_dataBytes s.framer h l)
  have hlast : last.rst = false := hr last (by simp)
  rw [foldl_afterCycle_concat, coreStep_trailer hbooted hC2 hlast hv (List.head_eq_of_cons_eq htrailer),
    coreStep_out hlast hbooted, hv]
  rfl

/-- Settles O39: the four cycles of FRAME V are a run with nothing between its bytes. -/
theorem frameIsAcceptedFromEveryRunState : Obligations.FrameIsAcceptedFromEveryRunState := by
  intro s v hb hv
  set h := v.extractLsb' 7 7
  set l := v.extractLsb' 0 7
  have hV : assemble h l = v := assemble_extract hv
  have hrun := runSteps_bytes (Sys2Proof.frameBytes h l (trailer h l)) s
  have hstate := foldl_afterCycle_frame (ps := [.byte 0x80, .byte (lowByte h), .byte (lowByte l)])
    (last := .byte (lowByte (trailer h l))) hb (by simp [Input.byte]) rfl rfl
  refine (runSteps_succ_frame 4 h l (trailer h l) s).trans (hrun.trans (congrArg _ (hstate.trans ?_)))
  rw [Registers.accepted, hV, hb]
  rfl

/-- Settles O40: the state after the run, read field by field. -/
theorem frameIsAcceptedWhateverFallsBetweenItsBytes :
    Obligations.FrameIsAcceptedWhateverFallsBetweenItsBytes := by
  intro s v ps last hb hv hr hlast hbytes
  have hrun := runSteps_cycles (ps ++ [last]) s
  rw [foldl_afterCycle_frame hb hr hlast hbytes, Registers.accepted, assemble_extract hv,
    List.length_append] at hrun
  exact ⟨_, hrun, rfl, rfl, ⟨rfl, rfl⟩, rfl, rfl⟩

end Sys2Proof.Machine
end

section
/-! PROOF of O11 and O41: a frame whose fourth byte is not its trailer. None of its bytes is accepted, so each changes
the framer alone: there is no tick, and the Poll finds the outputs off already where the countdown is zero. -/

namespace Sys2Proof.Machine

/-- `S` with another framer. -/
def Registers.withFramer (S : Registers) (F : Framer) : Registers :=
  { S with inPacket := F.inPacket, length := F.length, acc := F.acc, crc := F.crc }

theorem eq_withFramer {S T : Registers} {F : Framer} (hF : T.framer = F) (hcountdown : T.countdown = S.countdown)
    (hlines : T.lineEn = S.lineEn) (haux : T.aux = S.aux) (hb : T.booted = S.booted) : T = S.withFramer F := by
  rw [Registers.withFramer, ← hF, ← hcountdown, ← hlines, ← haux, ← hb]
  rfl

/-- A byte that is not accepted, in a RUN cycle without a tick, changes the framer alone (R141). -/
theorem coreStep_byte_withFramer {S : Registers} {F : Framer} {c : Byte} (hb : S.booted = true)
    (hoff : S.countdown = 0 → S.allOff) (ha : (framerStep F c).accept = false) :
    (coreStep (S.withFramer F) (.byte c)).1 = S.withFramer (framerStep F c).framer := by
  set T := S.withFramer F
  have hbT : T.booted = true := hb
  have hnot : accepts T (.byte c) = false := by
    rw [accepts_byte, show T.framer = F from rfl, ha, Bool.and_false]
  have hframer := coreStep_framer (p := .byte c) rfl hbT
  have hbooted := (coreStep_booted (p := .byte c) rfl hbT).trans hb.symm
  obtain ⟨hcountdown, hlines, haux⟩ := coreStep_of_not_accepts (p := .byte c) rfl hbT hnot
  rw [show tickedCountdown T (.byte c) = S.countdown from rfl] at hcountdown hlines haux
  by_cases h0 : S.countdown = 0
  · obtain ⟨linesOff, auxOff⟩ := hoff h0
    rw [h0] at hlines haux
    exact eq_withFramer hframer hcountdown (hlines.trans linesOff.symm) (haux.trans auxOff.symm) hbooted
  · rw [if_neg (by simpa using h0)] at hlines haux
    exact eq_withFramer hframer hcountdown hlines haux hbooted

/-- The first three bytes of a frame bring the framer to C2 and change nothing else. -/
theorem coreRun_dataBytes {S : Registers} (hb : S.booted = true) (hoff : S.countdown = 0 → S.allOff)
    (h l : DataBits) :
    coreRun [.byte 0x80, .byte (lowByte h), .byte (lowByte l)] S =
      S.withFramer (Framer.awaitingTrailer h l) := by
  have hi_not_accepted : (framerStep (framerStep S.framer 0x80).framer (lowByte h)).accept = false := by
    rw [framerStep_marker, framerStep_hi h rfl rfl]
  have lo_not_accepted :
      (framerStep (framerStep (framerStep S.framer 0x80).framer (lowByte h)).framer (lowByte l)).accept = false := by
    rw [framerStep_marker, framerStep_hi h rfl rfl, framerStep_lo l rfl rfl]
  show (coreStep (coreStep (coreStep (S.withFramer S.framer) (.byte 0x80)).1 (.byte (lowByte h))).1
    (.byte (lowByte l))).1 = _
  rw [coreStep_byte_withFramer hb hoff rfl, coreStep_byte_withFramer hb hoff hi_not_accepted,
    coreStep_byte_withFramer hb hoff lo_not_accepted]
  exact congrArg S.withFramer (foldl_framerStep_dataBytes S.framer h l)

/-- A frame with any fourth byte but its trailer leaves outputs and countdown as they were (R117, R118, R111). -/
theorem runSteps_badFrame {s : State} {h l : DataBits} {c : Byte} (hb : s.booted = true)
    (hoff : s.countdown = 0 → s.allOff) (hc : c ≠ lowByte (trailer h l)) :
    ∃ t, runSteps 4 (s.offerAll (Stimulus.bytes [0x80, lowByte h, lowByte l, c])) = .next t ∧
      t.framer = (framerStep (Framer.awaitingTrailer h l) c).framer ∧
      t.lineEn = s.lineEn ∧ t.aux = s.aux ∧ t.countdown = s.countdown := by
  have last_not_accepted : (framerStep (Framer.awaitingTrailer h l) c).accept = false := by
    rw [← Bool.not_eq_true, framerStep_awaitingTrailer_accept_iff]
    exact hc
  have hrun := runSteps_bytes [0x80, lowByte h, lowByte l, c] s
  have hstate := foldl_afterCycle_concat [.byte 0x80, .byte (lowByte h), .byte (lowByte l)] (.byte c) s
  rw [coreRun_dataBytes hb hoff, coreStep_byte_withFramer hb hoff last_not_accepted] at hstate
  exact ⟨_, hrun.trans (congrArg _ hstate), rfl, rfl, rfl, rfl⟩

/-- Settles O11: the mismatch arm of CHECK, and the source's frame of command 1, whose trailer is 0x4C. -/
theorem crcMismatchWritesNoOutputAndNoCountdown : Obligations.CrcMismatchWritesNoOutputAndNoCountdown := by
  refine ⟨?_, ?_, ?_, framerStep_check 0x4D rfl rfl⟩
  · intro c s hc
    exact (execCheck_eq c s).trans (congrArg _ (if_neg hc))
  · intro F hp hl c hc
    have hmismatch : trailerMatches F.crc c = false := beq_eq_false_iff_ne.mpr hc
    refine (framerStep_check c hp hl).trans ?_
    rw [hmismatch]
    rfl
  · intro s xx hb hoff hxx
    have htrailer : lowByte (trailer 0x00 0x01) = 0x4C := by decide +kernel
    obtain ⟨t, hrun, -, houtputs⟩ := runSteps_badFrame hb hoff (htrailer.symm ▸ hxx)
    exact ⟨t, hrun, houtputs⟩

/-- Settles O41: the expansion, then the bad frame's bytes; the last is LOW, so the framer ends in IDLE. -/
theorem frameWithAWrongTrailerChangesNoOutput : Obligations.FrameWithAWrongTrailerChangesNoOutput := by
  intro s h l c hb hoff hc
  obtain ⟨t, hrun, hframer, houtputs⟩ := runSteps_badFrame (h := h) (l := l) hb hoff (lowByte_inj.not.mpr hc)
  rw [framerStep_check c rfl rfl] at hframer
  exact ⟨t, (runSteps_succ_frame 4 h l c s).trans hrun, congrArg Framer.fstate hframer, houtputs⟩

end Sys2Proof.Machine
end

section
/-! PROOF of O43: a count of the bytes a framer holds. A byte taken raises it by at most one and nothing else raises
it; an acceptance leaves 0, and only a framer that holds three can accept. -/

namespace Sys2Proof.Machine

/-- How many bytes of a frame a framer holds, the marker among them. -/
def Framer.held (F : Framer) : Nat := if F.inPacket then F.length.toNat + 1 else 0

theorem held_of_accept {F : Framer} {c : Byte} (h : (framerStep F c).accept = true) : F.held = 3 := by
  obtain ⟨hp, hl, -⟩ := (framerStep_accept_iff F c).mp h
  rw [Framer.held, if_pos hp, hl]
  rfl

theorem framerStep_held_le (F : Framer) (c : Byte) : (framerStep F c).framer.held ≤ F.held + 1 := by
  cases byteRow F c with
  | marker => rw [framerStep_marker]; simp [Framer.held]
  | ignore c hp hc => rw [framerStep_idle hp hc]; simp
  | abort b hp hb => rw [framerStep_high hp hb]; simp [Framer.held]
  | hi d hp hl => rw [framerStep_hi d hp hl]; simp [Framer.held, hp, hl]
  | lo d hp hl => rw [framerStep_lo d hp hl]; simp [Framer.held, hp, hl]
  | check d hp hl => rw [framerStep_check d hp hl]; simp [Framer.held]
  | overrun d hp hl => rw [framerStep_overrun d hp hl]; simp [Framer.held]

theorem coreStep_held_le (S : Registers) (p : Input) :
    (coreStep S p).1.framer.held ≤ S.framer.held + if (coreStep S p).2.rxTake then 1 else 0 := by
  cases hr : p.rst
  · cases hb : S.booted
    · rw [coreStep_boot hr hb]
      exact Nat.le_add_right _ _
    · rw [coreStep_framer hr hb, coreStep_out hr hb]
      cases p.rxValid
      · exact Nat.le_refl _
      · exact framerStep_held_le _ _
  · rw [coreStep_rst hr]
    exact Nat.zero_le _

theorem coreRun_held_le (ps : List Input) (S : Registers) :
    (coreRun ps S).framer.held ≤ S.framer.held + takenBytes ps S := by
  induction ps generalizing S with
  | nil => exact Nat.le_refl _
  | cons p ps ih =>
    have hstep := coreStep_held_le S p
    have hrest := ih (coreStep S p).1
    rw [coreRun, takenBytes]
    omega

/-- Settles O43: from 0 at most two bytes make at most two, and an acceptance needs three. -/
theorem acceptancesAreFourBytesApart : Obligations.AcceptancesAreFourBytesApart := by
  intro s t u p q ps hp ht htaken hu
  have hstart : t.framer.held = 0 := by
    rw [step_offer_eq_coreStep, coreStep_of_accepts hp] at ht
    cases ht
    rfl
  have hend : u.toRegisters = coreRun ps t.toRegisters := by
    rw [runSteps_cycles] at hu
    cases hu
    exact foldl_afterCycle_registers ps t
  have hle := coreRun_held_le ps t.toRegisters
  by_contra hq
  rw [Bool.not_eq_false, accepts_iff] at hq
  obtain ⟨-, -, -, haccept⟩ := hq
  have hthree := held_of_accept haccept
  rw [hend] at hthree
  omega

end Sys2Proof.Machine
end

section
/-! PROOF of O38: the outputs after a cycle, case by case as `expectedCommand` names the command they show. -/

namespace Sys2Proof.Machine

/-- Command 0 is all off (R131). -/
theorem apply_zero : apply 0x0000 = (0, false) := by decide

/-- The outputs show command 0 exactly if they are all off. -/
theorem shows_zero_iff (S : Registers) : S.shows 0x0000 ↔ S.allOff := by
  rw [Registers.shows, apply_zero, Registers.allOff]

theorem expectedCommand_rst {S : Registers} {p : Input} (hr : p.rst = true) (v : Command) :
    expectedCommand v S p = 0 := if_pos hr

theorem expectedCommand_of_accepts {S : Registers} {p : Input} (ha : accepts S p = true) (v : Command) :
    expectedCommand v S p = S.acc := by
  obtain ⟨hr, -⟩ := (accepts_iff S p).mp ha
  simp [expectedCommand, hr, ha]

/-- Nothing is accepted and nothing times out in BOOT (R146). -/
theorem expectedCommand_boot {S : Registers} {p : Input} (hr : p.rst = false) (hb : S.booted = false)
    (v : Command) : expectedCommand v S p = v := by
  simp [expectedCommand, accepts, timesOut, hr, hb]

theorem expectedCommand_of_not_accepts {S : Registers} {p : Input} (hr : p.rst = false) (hb : S.booted = true)
    (ha : accepts S p = false) (v : Command) :
    expectedCommand v S p = if tickedCountdown S p == 0 then 0 else v := by
  simp [expectedCommand, timesOut, hr, hb, ha]

/-- R138 over the spec's own `step(S, in)`. -/
theorem coreStep_shows {S : Registers} {v : Command} (hS : S.shows v) (p : Input) :
    (coreStep S p).1.shows (expectedCommand v S p) := by
  cases hr : p.rst
  case true =>
    rw [coreStep_rst hr, expectedCommand_rst hr, shows_zero_iff]
    exact ⟨rfl, rfl⟩
  cases hb : S.booted
  case false =>
    rw [coreStep_boot hr hb, expectedCommand_boot hr hb]
    exact hS
  cases ha : accepts S p
  case true =>
    rw [coreStep_of_accepts ha, expectedCommand_of_accepts ha]
    exact ⟨rfl, rfl⟩
  obtain ⟨shownLines, shownAux⟩ := hS
  obtain ⟨-, hlines, haux⟩ := coreStep_of_not_accepts hr hb ha
  rw [expectedCommand_of_not_accepts hr hb ha]
  by_cases h0 : (tickedCountdown S p == 0) = true
  · rw [if_pos h0] at hlines haux ⊢
    exact (shows_zero_iff _).mpr ⟨hlines, haux⟩
  · rw [if_neg h0] at hlines haux ⊢
    exact ⟨hlines.trans shownLines, haux.trans shownAux⟩

/-- Settles O38: reset shows command 0, and a step of an offered cycle is the spec's `step(S, in)`. -/
theorem outputsFollowTheLastAcceptedCommand : Obligations.OutputsFollowTheLastAcceptedCommand := by
  refine ⟨(shows_zero_iff _).mpr ⟨rfl, rfl⟩, ?_⟩
  intro s p v hs
  exact ⟨_, step_offer_eq_coreStep s p, coreStep_shows hs p⟩

end Sys2Proof.Machine
end

section
/-! PROOF of O16, O17, O18, O19: the three command classes. Line `k` shows bit `k` of the masked command; each class
is its mask, read bit by bit. -/

namespace Sys2Proof.Machine

/-- The split of R131 puts bit `k` of the masked command on line `k`. -/
theorem lineEnabled_eq_bit {s : State} {m : Command} (hs : s.lineEn = lineBits m) {k : Nat} (hlo : 1 ≤ k)
    (hhi : k ≤ 15) : s.lineEnabled k = m.getLsbD k := by
  have hbit : (lineBits m).getLsbD (k - 1) = m.getLsbD (1 + (k - 1)) := by
    rw [lineBits, BitVec.getLsbD_extractLsb', decide_eq_true (by omega), Bool.true_and]
  rw [State.lineEnabled, decide_eq_true hlo, Bool.true_and, hs, hbit, Nat.add_sub_cancel' hlo]

/-- The cruise mask holds the bits of lines 4 to 8 (R132). -/
theorem cruiseMask_getLsbD {k : Nat} (hk : k ≤ 15) :
    config.cruiseMask.getLsbD k = decide (4 ≤ k ∧ k ≤ 8) := by
  revert k; decide

/-- The media mask holds the bits of the dedicated line and lines 1 to 3 (R133). -/
theorem mediaMask_getLsbD {k : Nat} (hk : k ≤ 15) : config.mediaMask.getLsbD k = decide (k ≤ 3) := by
  revert k; decide

/-- Settles O16: the class drives the command under the cruise mask, whose bit 0 is clear. -/
theorem cruiseFaultLetsOnlyLines4To8Through : Obligations.CruiseFaultLetsOnlyLines4To8Through := by
  refine ⟨?_, by decide, by decide, by decide, by decide, by decide⟩
  intro v s h13
  have hclass : decodeCommand v = .cmdCruise v := by rw [decodeCommand_eq, if_pos h13]
  refine ⟨hclass, s.drive (v &&& config.cruiseMask), rfl, ?_, ?_, rfl⟩
  · intro k hlo hhi
    rw [lineEnabled_eq_bit rfl hlo hhi, BitVec.getLsbD_and, cruiseMask_getLsbD hhi, Bool.and_comm]
  · rw [drive_aux, auxBit, BitVec.getLsbD_and, cruiseMask_getLsbD (by decide)]
    exact Bool.and_false _

/-- Settles O17: the class drives the command under the media mask, whose bit 0 is set. -/
theorem mediaFaultLetsOnlyLines1To3AndAuxThrough : Obligations.MediaFaultLetsOnlyLines1To3AndAuxThrough := by
  refine ⟨?_, by decide, by decide, by decide⟩
  intro v s h13 h12
  have hclass : decodeCommand v = .cmdMedia v := by rw [decodeCommand_eq, h13, h12]; rfl
  refine ⟨hclass, s.drive (v &&& config.mediaMask), rfl, ?_, ?_, rfl⟩
  · intro k hlo hhi
    rw [lineEnabled_eq_bit rfl hlo hhi, BitVec.getLsbD_and, mediaMask_getLsbD hhi, Bool.and_comm]
  · rw [drive_aux, auxBit, BitVec.getLsbD_and, mediaMask_getLsbD (by decide)]
    exact Bool.and_true _

/-- Settles O18: the class drives the command itself, so lines 13 and 12 show the two clear fault bits. -/
theorem normalCommandDrivesEveryLineByItsBit : Obligations.NormalCommandDrivesEveryLineByItsBit := by
  refine ⟨?_, by decide, by decide, by decide, by decide⟩
  intro v s h13 h12
  have hclass : decodeCommand v = .cmdNormal v := by rw [decodeCommand_eq, h13, h12]; rfl
  have line_bit (k : Nat) (hlo : 1 ≤ k) (hhi : k ≤ 15) : (s.drive v).lineEnabled k = v.getLsbD k :=
    lineEnabled_eq_bit rfl hlo hhi
  have line13 := (line_bit 13 (by decide) (by decide)).trans h13
  have line12 := (line_bit 12 (by decide) (by decide)).trans h12
  refine ⟨hclass, s.drive v, rfl, line_bit, line13, line12, ?_, rfl, rfl⟩
  intro htop k hlo hhi
  obtain rfl | rfl | hk : k = 12 ∨ k = 13 ∨ 14 ≤ k := by omega
  · exact line12
  · exact line13
  · rw [line_bit k (by omega) hhi]
    exact getLsbD_of_extract_eq_zero htop hk (by omega)

/-- The class the decoder picks is the one the ACCEPT action and the Poll invoke (R135, R169). -/
theorem exec_decodeCommand_eq_applyCommand (v : Command) (s : State) :
    exec (decodeCommand v) s = applyCommand v s := by
  have h13 : cruiseFault v = v.getLsbD 13 := rfl
  have h12 : mediaFault v = v.getLsbD 12 := rfl
  rw [decodeCommand_eq, applyCommand, h13, h12]
  cases v.getLsbD 13
  · cases v.getLsbD 12 <;> rfl
  · rfl

theorem exec_decodeCommand (v : Command) (s : State) :
    exec (decodeCommand v) s = .next (s.outWrite (apply v).1 (apply v).2) := by
  rw [exec_decodeCommand_eq_applyCommand, applyCommand_eq]

/-- Settles O19: the masked command is `override v`, and running the class writes `apply v`. -/
theorem overrideMasksFirstThenSplits : Obligations.OverrideMasksFirstThenSplits := by
  refine ⟨?_, apply_zero, ?_⟩
  · intro v s m
    set t := s.outWrite (apply v).1 (apply v).2
    have line_bit (k : Nat) (hlo : 1 ≤ k) (hhi : k ≤ 15) : t.lineEnabled k = m.getLsbD k :=
      lineEnabled_eq_bit (lineBits_eq_shift m).symm hlo hhi
    refine ⟨t, exec_decodeCommand v s, rfl, ?_, rfl, rfl, rfl, rfl⟩
    intro k hlo hhi
    rw [State.pad, line_bit k hlo hhi]
    exact ⟨rfl, rfl⟩
  · intro s
    rw [exec_decodeCommand, apply_zero]
    rfl

end Sys2Proof.Machine
end

section
/-! PROOF of O46: the outputs a run from reset can show. The invariant keeps lines 12 to 15 off; each other pattern is
its own command, of class CMD_NORMAL, and a run that boots and takes its frame shows it. -/

namespace Sys2Proof.Machine

/-- The command whose bits are the wanted outputs: R131 read backwards. -/
def commandShowing (le : Lines) (a : Bool) : Command := le ++ BitVec.ofBool a

theorem commandShowing_toNat (le : Lines) (a : Bool) :
    (commandShowing le a).toNat = 2 * le.toNat + a.toNat := by
  have ha : a.toNat < 2 ^ 1 := Bool.toNat_lt a
  rw [commandShowing, BitVec.toNat_append, BitVec.toNat_ofBool, ← Nat.shiftLeft_add_eq_or_of_lt ha,
    Nat.shiftLeft_eq]
  omega

/-- With lines 12 to 15 off it has at most 12 bits, so a frame can carry it and no fault bit is set (R136). -/
theorem commandShowing_le {le : Lines} (hle : le.extractLsb' 11 4 = 0) (a : Bool) :
    commandShowing le a ≤ 0x0FFF := by
  have hhigh : le.toNat / 2 ^ 11 % 2 ^ 4 = 0 := by
    simpa [Nat.shiftRight_eq_div_pow] using congrArg BitVec.toNat hle
  have ha : a.toNat < 2 := Bool.toNat_lt a
  show (commandShowing le a).toNat ≤ 0x0FFF
  rw [commandShowing_toNat]
  omega

theorem override_of_le {v : Command} (hv : v ≤ 0x0FFF) : override v = v := by
  have hlt : v.toNat < 2 ^ 12 := Nat.lt_succ_of_le hv
  have fault_bit_clear (i : Nat) (hi : 12 ≤ i) : v.getLsbD i = false :=
    Nat.testBit_lt_two_pow (hlt.trans_le (Nat.pow_le_pow_right (by decide) hi))
  rw [override, fault_bit_clear 13 (by decide), fault_bit_clear 12 (by decide)]
  rfl

theorem apply_commandShowing {le : Lines} (hle : le.extractLsb' 11 4 = 0) (a : Bool) :
    apply (commandShowing le a) = (le, a) := by
  have line_bit (i : Nat) : (commandShowing le a).getLsbD (1 + i) = le.getLsbD i := by
    rw [commandShowing, BitVec.getLsbD_append, if_neg (by omega), Nat.add_sub_cancel_left]
  have aux_bit : (commandShowing le a).getLsbD 0 = a := by
    rw [commandShowing, BitVec.getLsbD_append, if_pos (by decide), BitVec.getLsbD_ofBool]
    rfl
  rw [apply, override_of_le (commandShowing_le hle a), aux_bit, ← lineBits_eq_shift]
  congr 1
  ext i hi
  rw [lineBits, BitVec.getElem_extractLsb', line_bit, BitVec.getLsbD_eq_getElem]

/-- Any number of steps from a reachable state reaches its end. -/
theorem Reachable.runSteps {n : Nat} {s t : State} (hs : Reachable s) (h : runSteps n s = .next t) :
    Reachable t := by
  induction n generalizing s with
  | zero =>
    cases h
    exact hs
  | succ n ih =>
    obtain ⟨u, hu, hrest⟩ := andThen_eq_next h
    exact ih (hs.step hu) hrest

/-- After the arm cycle a run from reset is in RUN, whatever is listed for it (R146). -/
theorem exists_reachable_booted (items : List Stimulus) :
    ∃ s : State, Reachable (s.offerAll items) ∧ s.booted = true := by
  have hstart : Reachable ((State.reset.offerAll items).offer (.nop 0x00)) := .reset _
  have harm : step ((State.reset.offerAll items).offer (.nop 0x00)) =
      .next ((State.reset.afterCycle (.nop 0x00)).offerAll items) := by
    rw [step_offer, runCycle_eq, afterCycle_offerAll]
  exact ⟨_, hstart.step harm, rfl⟩

/-- Settles O46: the invariant bounds what a run shows, and the frame of `commandShowing le a` shows the rest. -/
theorem reachableOutputsAreExactlyLines1To11AndAux :
    Obligations.ReachableOutputsAreExactlyLines1To11AndAux := by
  intro le a
  constructor
  · rintro ⟨s, hs, rfl, -⟩
    exact hs.inv.bounded.lines
  · intro hle
    set v := commandShowing le a
    have hv : v ≤ 0x3FFF := BitVec.le_trans (commandShowing_le hle a) (by decide)
    have hshown : apply v = (le, a) := apply_commandShowing hle a
    obtain ⟨s, hs, hb⟩ := exists_reachable_booted [Stimulus.ofCommand v]
    exact ⟨_, hs.runSteps (frameIsAcceptedFromEveryRunState s v hb hv), congrArg Prod.fst hshown,
      congrArg Prod.snd hshown⟩

end Sys2Proof.Machine
end

section
/-! PROOF of O28, O30, O29: where a step's item comes from, what it runs, and that it always answers. -/

namespace Sys2Proof.Machine

theorem step_of_fetch_cycle {s : State} {p : Input} (h : s.fetch = .cycle p) :
    step s = runCycle p s.popStimulus := by
  rw [step, h]

theorem step_of_fetch_frame {s : State} {h l c : DataBits} (hfetch : s.fetch = .frame h l c) :
    step s = exec (.frame h l c) s.popStimulus := by
  rw [step, hfetch]

theorem runOps_singleton (i : Instr) (s : State) : runOps [i] s = exec i s := by
  rw [runOps]
  cases exec i s <;> rfl

/-- An operation that a pin selects or leaves out. -/
theorem runOps_optional (b : Bool) (i : Instr) (s : State) :
    runOps (if b then [i] else []) s = if b then exec i s else .next s := by
  cases b
  · rfl
  · exact runOps_singleton i s

/-- The three operations of a RUN cycle, each on the result of the one before (R61, R147). -/
theorem runOps_decodeCycle_eq_andThen {p : Input} (hr : p.rst = false) (F : FState) (s : State) :
    runOps (decodeCycle true F p) s =
      andThen (if p.tick then exec .tick s else .next s) fun s1 =>
        andThen (exec .poll s1) fun s2 =>
          if p.rxValid then exec (decodeByte F p.rxData) s2 else .next s2 := by
  have poll_byte (s1 : State) :
      runOps ([.poll] ++ if p.rxValid then [decodeByte F p.rxData] else []) s1 =
        andThen (exec .poll s1) fun s2 =>
          if p.rxValid then exec (decodeByte F p.rxData) s2 else .next s2 :=
    congrArg (andThen (exec .poll s1)) (funext (runOps_optional p.rxValid _))
  rw [decodeCycle, hr, if_neg Bool.false_ne_true, if_pos rfl, List.append_assoc, runOps_append, runOps_optional]
  exact congrArg _ (funext poll_byte)

/-- Settles O28: a cycle's list of operations is `[RESET]`, `[BOOT]`, or the three of a RUN cycle. -/
theorem stepRunsTheDecodedOperations : Obligations.StepRunsTheDecodedOperations := by
  refine ⟨fun _ _ _ _ => step_of_fetch_frame, ?_, ?_, fun _ _ => rfl⟩
  · intro s p hfetch b
    have hstep : step s = runOps (decodeCycle s.booted s.fstate p) b := step_of_fetch_cycle hfetch
    refine ⟨fun hr => ?_, fun hr hb => ?_, fun hr hb => ?_⟩
    · rw [hstep, decodeCycle, if_pos hr, runOps_singleton]
    · rw [hstep, decodeCycle, hr, hb]
      exact runOps_singleton .boot b
    · rw [hstep, hb, runOps_decodeCycle_eq_andThen hr]
  · intro s p rest hs
    rw [State.fetch, State.popStimulus, hs]
    exact ⟨rfl, rfl⟩

/-- Settles O30: a cycle ends in the state after it, and a FRAME in its expansion. -/
theorem everyStepAnswersANextState : Obligations.EveryStepAnswersANextState := by
  intro s
  cases hfetch : s.fetch with
  | cycle p => exact ⟨_, (step_of_fetch_cycle hfetch).trans (runCycle_eq p _)⟩
  | frame h l c => exact ⟨_, (step_of_fetch_frame hfetch).trans (execFrame_eq_offerAll h l c _)⟩

/-- Settles O29: the equation of a step on an offered cycle. -/
theorem stepRefinesTheWholeCycleFunction : Obligations.StepRefinesTheWholeCycleFunction :=
  step_offer_eq_coreStep

end Sys2Proof.Machine
end

section
/-! PROOF of O21, O22, O23, O26: TICK, POLL and BOOT, and the combinational outputs of a cycle in each case of
R147. -/

namespace Sys2Proof.Machine

/-- The countdown's decrement, as a truncated one on its value (R140). -/
theorem decrement_toNat (n : Ticks) : (if n != 0 then n - 1 else 0).toNat = n.toNat - 1 := by
  by_cases h0 : n = 0
  · rw [h0]
    rfl
  · have hpos : 1#16 ≤ n := by bv_omega
    rw [if_pos (bne_iff_ne.mpr h0)]
    exact BitVec.toNat_sub_of_le hpos

/-- Settles O21: a tick is the decrement and the pulse. -/
theorem tickDecrementsAndSaturatesAtZero : Obligations.TickDecrementsAndSaturatesAtZero :=
  fun s => ⟨s.countTick, rfl, decrement_toNat s.countdown, rfl⟩

/-- Settles O22: the Poll as one equation. -/
theorem pollForcesOutputsOffAtZero : Obligations.PollForcesOutputsOffAtZero := execPoll_eq

theorem coreStep_boot_out {S : Registers} {p : Input} (hr : p.rst = false) (hb : S.booted = false) :
    (coreStep S p).2 = { Output.quiet with wdtArm := true } := by
  simp only [coreStep, hr, hb]
  rfl

/-- Settles O23: in BOOT the registers and outputs of `step(S, in)` do not depend on byte and tick; in RUN they stay
in RUN without `wdt_arm`. -/
theorem bootArmsTheWatchdogOnceAndIgnoresInputs : Obligations.BootArmsTheWatchdogOnceAndIgnoresInputs := by
  refine ⟨fun _ => rfl, ?_, ?_⟩
  · intro s p hr hb
    rw [step_offer_eq_coreStep, coreStep_boot hr hb, coreStep_boot_out hr hb]
    rfl
  · intro s p hr hb
    exact ⟨_, step_offer_eq_coreStep s p, coreStep_booted hr hb, congrArg Output.wdtArm (coreStep_out hr hb)⟩

/-- Settles O26: the outputs in reset, in BOOT and in RUN. -/
theorem everyConsumedBytePetsTheWatchdog : Obligations.EveryConsumedBytePetsTheWatchdog := by
  intro s p
  refine ⟨_, step_offer_eq_coreStep s p, ?_⟩
  cases hr : p.rst
  · cases hb : s.booted
    · rw [coreStep_boot_out hr hb]
      exact ⟨rfl, rfl, rfl, rfl⟩
    · rw [coreStep_out hr hb]
      exact ⟨rfl, rfl, rfl, rfl⟩
  · rw [coreStep_rst hr]
    exact ⟨rfl, rfl, rfl, rfl⟩

end Sys2Proof.Machine
end

section
/-! PROOF of O25 and O31: the two RUN cycles at the ends of R147, one that accepts and one with nothing offered. -/

namespace Sys2Proof.Machine

/-- Settles O25: the cycle accepts, and then no register depends on the tick or on what the Poll found. -/
theorem acceptanceBeatsTheTickAndThePollOfItsCycle :
    Obligations.AcceptanceBeatsTheTickAndThePollOfItsCycle := by
  refine ⟨?_, by decide, by decide⟩
  intro s c tick hb hC2 hcrc
  set p : Input := { rst := false, rxValid := true, rxData := 0#1 ++ c, tick := tick }
  have hbyte : (framerStep s.framer p.rxData).accept = true :=
    (framerStep_accept_iff _ _).mpr ⟨congrArg FState.inPacket hC2, congrArg FState.length hC2, hcrc.symm⟩
  have haccepts : accepts s.toRegisters p = true := (accepts_iff _ _).mpr ⟨rfl, hb, rfl, hbyte⟩
  rw [step_offer_eq_coreStep, coreStep_of_accepts haccepts, coreStep_out rfl hb]
  rfl

/-- With nothing offered only the Poll acts, on the outputs alone. -/
theorem coreStep_nop {S : Registers} (hb : S.booted = true) (d : Byte) :
    (coreStep S (.nop d)).1 =
      { S with
        lineEn := if S.countdown == 0 then 0 else S.lineEn
        aux := if S.countdown == 0 then false else S.aux } := by
  simp only [coreStep, hb]
  rfl

/-- Settles O31: the Poll writes nothing while the countdown is not zero, and nothing new where the outputs are off
already. -/
theorem quietCyclesChangeNoRegister : Obligations.QuietCyclesChangeNoRegister := by
  intro s d hb
  have kept (h0 : s.countdown ≠ 0) : (coreStep s.toRegisters (.nop d)).1 = s.toRegisters := by
    rw [coreStep_nop hb, beq_false_of_ne h0]
    rfl
  have forced (h0 : s.countdown = 0) :
      (coreStep s.toRegisters (.nop d)).1 = { s.toRegisters with lineEn := 0, aux := false } := by
    rw [coreStep_nop hb, beq_iff_eq.mpr h0]
    rfl
  refine ⟨_, step_offer_eq_coreStep s (.nop d), kept, forced, fun hinv => ?_⟩
  by_cases h0 : s.countdown = 0
  · obtain ⟨linesOff, auxOff⟩ := hinv.off h0
    refine (forced h0).trans ?_
    rw [← linesOff, ← auxOff]
  · exact kept h0

end Sys2Proof.Machine
end

section
/-! PROOF of O44: a run without reset and without an acceptance (R149, R185). Each cycle takes its tick off the
countdown and, with that at zero, the outputs are off; the rest is the induction over the run. -/

namespace Sys2Proof.Machine

theorem tickCount_cons (p : Input) (ps : List Input) :
    tickCount (p :: ps) = p.tick.toNat + tickCount ps := by
  cases hp : p.tick <;> simp [tickCount, hp, Nat.add_comm]

theorem tickedCountdown_toNat (S : Registers) (p : Input) :
    (tickedCountdown S p).toNat = S.countdown.toNat - p.tick.toNat := by
  rw [tickedCountdown]
  cases p.tick
  · rfl
  · exact decrement_toNat S.countdown

/-- The outputs after a cycle that does not accept: off with its countdown at zero, as they were otherwise. -/
theorem coreStep_outputs_of_not_accepts {S : Registers} {p : Input} (hr : p.rst = false)
    (hb : S.booted = true) (ha : accepts S p = false) :
    (coreStep S p).1.countdown.toNat = S.countdown.toNat - p.tick.toNat ∧
    ((coreStep S p).1.countdown = 0 → (coreStep S p).1.allOff) ∧
    ((coreStep S p).1.countdown ≠ 0 →
      (coreStep S p).1.lineEn = S.lineEn ∧ (coreStep S p).1.aux = S.aux) := by
  obtain ⟨hcountdown, hlines, haux⟩ := coreStep_of_not_accepts hr hb ha
  rw [Registers.allOff, hcountdown, hlines, haux]
  refine ⟨tickedCountdown_toNat S p, fun h0 => ?_, fun h0 => ?_⟩
  · rw [h0]
    exact ⟨rfl, rfl⟩
  · rw [beq_false_of_ne h0]
    exact ⟨rfl, rfl⟩

theorem coreRun_of_noAcceptance {ps : List Input} {S : Registers} (hb : S.booted = true)
    (hoff : S.countdown = 0 → S.allOff) (hps : NoAcceptance ps S) :
    (coreRun ps S).countdown.toNat = S.countdown.toNat - tickCount ps ∧
    (tickCount ps < S.countdown.toNat →
      (coreRun ps S).lineEn = S.lineEn ∧ (coreRun ps S).aux = S.aux) ∧
    (S.countdown.toNat ≤ tickCount ps → (coreRun ps S).allOff) := by
  induction ps generalizing S with
  | nil =>
    refine ⟨rfl, fun _ => ⟨rfl, rfl⟩, fun hle => hoff (BitVec.eq_of_toNat_eq ?_)⟩
    exact Nat.le_zero.mp hle
  | cons p ps ih =>
    obtain ⟨hr, ha, hrest⟩ := hps
    obtain ⟨hcountdown, hzero, hkept⟩ := coreStep_outputs_of_not_accepts hr hb ha
    obtain ⟨hend, before, after⟩ := ih (coreStep_booted hr hb) hzero hrest
    rw [coreRun, tickCount_cons]
    refine ⟨by omega, fun hlt => ?_, fun hle => after (by omega)⟩
    have hne : (coreStep S p).1.countdown ≠ 0 := by
      intro h0
      rw [h0, show (0 : Ticks).toNat = 0 from rfl] at hcountdown
      omega
    obtain ⟨hlines, haux⟩ := hkept hne
    obtain ⟨endLines, endAux⟩ := before (by omega)
    exact ⟨endLines.trans hlines, endAux.trans haux⟩

/-- Settles O44: the steps of the run are the spec's own run of its cycles. -/
theorem outputsGoOffAtExactlyTheLastTick : Obligations.OutputsGoOffAtExactlyTheLastTick := by
  intro s ps hb hoff hps
  refine ⟨_, runSteps_cycles ps s, ?_⟩
  rw [foldl_afterCycle_registers]
  exact coreRun_of_noAcceptance hb hoff hps

end Sys2Proof.Machine
end

section
/-! SUPPORT. One clock cycle of the core and its environment as one equation: the core by the spec's `step(S, in)`,
the Byte Source by whether the core takes, the reference watchdog by the core's outputs. -/

namespace Sys2Proof.Machine

/-- The combinational outputs of the core in a cycle. -/
def System.outputs (y : System) (o : Outside) : Output := (coreStep y.core.toRegisters (y.pins o)).2

/-- Core and environment after a cycle. -/
def System.afterCycle (interval : Nat) (y : System) (o : Outside) : System where
  core :=
    { toRegisters := (coreStep y.core.toRegisters (y.pins o)).1
      out := y.outputs o
      stimulus := y.core.stimulus
      cycle := y.core.cycle + 1 }
  source := receive y.source (y.outputs o).rxTake o.arrival
  watchdog := (y.watchdog.next interval (y.outputs o)).1
  restart := (y.watchdog.next interval (y.outputs o)).2

theorem System.step_eq (interval : Nat) (y : System) (o : Outside) :
    y.step interval o = .next (y.afterCycle interval o) := by
  rw [System.step, step_offer_eq_coreStep]
  rfl

theorem System.run_cons (interval : Nat) (o : Outside) (os : List Outside) (y : System) :
    System.run interval (o :: os) y = System.run interval os (y.afterCycle interval o) := by
  rw [System.run, System.step_eq]

theorem System.outputs_rst {y : System} {o : Outside} (hr : (y.pins o).rst = true) :
    y.outputs o = Output.quiet :=
  congrArg Prod.snd (coreStep_rst hr)

theorem System.outputs_boot {y : System} {o : Outside} (hr : (y.pins o).rst = false)
    (hb : y.core.booted = false) : y.outputs o = { Output.quiet with wdtArm := true } :=
  coreStep_boot_out hr hb

theorem System.outputs_run {y : System} {o : Outside} (hr : (y.pins o).rst = false)
    (hb : y.core.booted = true) :
    y.outputs o =
      { rxTake := !y.source.isEmpty, wdtArm := false, wdtPet := !y.source.isEmpty,
        tickReload := o.tick, idle := y.source.isEmpty } := by
  rw [System.outputs, coreStep_out hr hb]
  simp only [System.pins, Bool.not_not]

/-- A running watchdog that is neither armed nor petted counts the cycle and expires at the interval (R171). -/
theorem Watchdog.next_running {interval : Nat} {w : Watchdog} {out : Output} (hrun : w.run = true)
    (harm : out.wdtArm = false) (hpet : out.wdtPet = false) :
    w.next interval out =
      if w.cnt + 1 = interval then ({ run := false, cnt := 0 }, true)
      else ({ run := true, cnt := w.cnt + 1 }, false) := by
  simp [Watchdog.next, hrun, harm, hpet]

/-- Without `wdt_arm` a stopped watchdog stays stopped (R171). -/
theorem Watchdog.next_stopped_run {interval : Nat} {w : Watchdog} {out : Output} (hrun : w.run = false)
    (harm : out.wdtArm = false) : (w.next interval out).1.run = false := by
  unfold Watchdog.next
  cases out.wdtPet <;> simp [hrun, harm]

end Sys2Proof.Machine
end

section
/-! PROOF of O52: without an arrival the Byte Source changes only by what the core takes. -/

namespace Sys2Proof.Machine

/-- Settles O52: `rx_take` is 0 in reset and in BOOT, and in RUN it is 1 exactly where a byte is unread. -/
theorem unreadBytesAreKeptUntilTaken : Obligations.UnreadBytesAreKeptUntilTaken := by
  intro interval y o harrival
  have source_eq : (y.afterCycle interval o).source =
      if (y.outputs o).rxTake then y.source.tail else y.source := by
    rw [System.afterCycle, harrival, receive]
  refine ⟨_, System.step_eq interval y o, rfl, fun hheld => ?_, fun hr hb => ?_⟩
  · have not_taken : (y.outputs o).rxTake = false := by
      cases hr : (y.pins o).rst
      · have hb : y.core.booted = false := by simpa [hr] using hheld
        rw [System.outputs_boot hr hb]
        rfl
      · rw [System.outputs_rst hr]
        rfl
    rw [source_eq, not_taken]
    rfl
  · rw [source_eq, System.outputs_run hr hb]
    cases y.source <;> rfl

end Sys2Proof.Machine
end

section
/-! PROOF of O53: the silent cycles count the watchdog up to its interval, and its expiry is the next cycle's reset. -/

namespace Sys2Proof.Machine

/-- A core in RUN without reset, with nothing to read and the watchdog running. -/
structure System.Stalled (y : System) : Prop where
  booted : y.core.booted = true
  source : y.source = []
  running : y.watchdog.run = true
  restart : y.restart = false

/-- A cycle in which the outside world neither resets the core nor sends a byte. -/
def Outside.Silent (o : Outside) : Prop := o.rst = false ∧ o.arrival = none

section
variable {interval : Nat} {y : System} {o : Outside}

theorem System.Stalled.pins_rst (hy : y.Stalled) (ho : o.Silent) : (y.pins o).rst = false := by
  rw [System.pins, ho.1, hy.restart]
  rfl

/-- In a silent cycle a stalled core neither arms nor pets the watchdog. -/
theorem System.Stalled.outputs_eq (hy : y.Stalled) (ho : o.Silent) :
    y.outputs o = { Output.quiet with tickReload := o.tick, idle := true } := by
  rw [System.outputs_run (hy.pins_rst ho) hy.booted, hy.source]
  rfl

theorem System.Stalled.watchdog_next (hy : y.Stalled) (ho : o.Silent) :
    y.watchdog.next interval (y.outputs o) =
      if y.watchdog.cnt + 1 = interval then ({ run := false, cnt := 0 }, true)
      else ({ run := true, cnt := y.watchdog.cnt + 1 }, false) := by
  rw [hy.outputs_eq ho]
  exact Watchdog.next_running hy.running rfl rfl

/-- At the interval the watchdog stops and asserts the reset of the next cycle. -/
theorem System.Stalled.expires (hy : y.Stalled) (ho : o.Silent) (hend : y.watchdog.cnt + 1 = interval) :
    (y.afterCycle interval o).restart = true ∧ (y.afterCycle interval o).watchdog.run = false := by
  rw [System.afterCycle, hy.watchdog_next ho, if_pos hend]
  exact ⟨rfl, rfl⟩

/-- Before the interval a silent cycle only counts: the system stays stalled. -/
theorem System.Stalled.counts (hy : y.Stalled) (ho : o.Silent) (hnot : y.watchdog.cnt + 1 ≠ interval) :
    (y.afterCycle interval o).Stalled ∧
    (y.afterCycle interval o).watchdog.cnt = y.watchdog.cnt + 1 := by
  have hbooted : (y.afterCycle interval o).core.booted = true := coreStep_booted (hy.pins_rst ho) hy.booted
  have hsource : (y.afterCycle interval o).source = [] := by
    rw [System.afterCycle, hy.outputs_eq ho, ho.2, hy.source]
    rfl
  have hnext := (hy.watchdog_next ho).trans (if_neg hnot)
  have hwatchdog : (y.afterCycle interval o).watchdog = { run := true, cnt := y.watchdog.cnt + 1 } :=
    congrArg Prod.fst hnext
  exact ⟨⟨hbooted, hsource, congrArg Watchdog.run hwatchdog, congrArg Prod.snd hnext⟩,
    congrArg Watchdog.cnt hwatchdog⟩

end

theorem System.Stalled.run_expires {interval : Nat} {os : List Outside} {y : System} (hy : y.Stalled)
    (hcnt : y.watchdog.cnt < interval) (hlen : os.length = interval - y.watchdog.cnt)
    (hos : ∀ x ∈ os, x.Silent) :
    ∃ z, System.run interval os y = .next z ∧ z.restart = true ∧ z.watchdog.run = false := by
  induction os generalizing y with
  | nil =>
    rw [List.length_nil] at hlen
    omega
  | cons o os ih =>
    rw [List.length_cons] at hlen
    obtain ⟨ho, hrest⟩ := List.forall_mem_cons.mp hos
    rw [System.run_cons]
    by_cases hend : y.watchdog.cnt + 1 = interval
    · have hnil : os = [] := List.length_eq_zero_iff.mp (by omega)
      rw [hnil]
      exact ⟨_, rfl, hy.expires ho hend⟩
    · obtain ⟨hstalled, hnext⟩ := hy.counts ho hend
      exact ih hstalled (by omega) (by omega) hrest

/-- The cycle after the expiry resets the core; without `wdt_arm` the watchdog stays stopped (R171, R173). -/
theorem System.step_restart {interval : Nat} {z : System} (o : Outside) (hrestart : z.restart = true)
    (hstopped : z.watchdog.run = false) :
    ∃ w, z.step interval o = .next w ∧ w.core.toRegisters = Registers.reset ∧ w.watchdog.run = false := by
  have hr : (z.pins o).rst = true := by
    rw [System.pins, hrestart]
    exact Bool.or_true _
  refine ⟨_, System.step_eq interval z o, congrArg Prod.fst (coreStep_rst hr), ?_⟩
  rw [System.afterCycle, System.outputs_rst hr]
  exact Watchdog.next_stopped_run hstopped rfl

/-- Settles O53, by the induction over the silent cycles and the reset cycle after them. -/
theorem stalledStreamRestartsTheCore : Obligations.StalledStreamRestartsTheCore := by
  intro interval y os o hb hsource hrun hnoRestart hcnt hlen hos
  have hy : y.Stalled := ⟨hb, hsource, hrun, hnoRestart⟩
  obtain ⟨z, hz, hrestart, hstopped⟩ := hy.run_expires hcnt hlen hos
  exact ⟨z, hz, hrestart, System.step_restart o hrestart hstopped⟩

end Sys2Proof.Machine
end

section
/-! PROOF of O24: a cycle with `rst` 1 is the reset case of the spec's `step(S, in)`. -/

namespace Sys2Proof.Machine

/-- Settles O24: neither the operation nor the reset case of `step(S, in)` reads a register or another pin. -/
theorem resetBeatsEverything : Obligations.ResetBeatsEverything := by
  refine ⟨fun _ => rfl, ?_⟩
  intro s p hr
  rw [step_offer_eq_coreStep, coreStep_rst hr]
  rfl

end Sys2Proof.Machine
end

section
/-! PROOF of O42: the trailer is linear in the flips, so a frame with flips `m` is accepted only if their syndrome is
0. The syndromes of the 21 single flips are distinct and not 0, so one or two flips never have syndrome 0 (R188). -/

namespace Sys2Proof.Machine

theorem lowByte_xor (d e : DataBits) : lowByte (d ^^^ e) = lowByte d ^^^ lowByte e := by
  simp only [lowByte_eq_setWidth, BitVec.setWidth_xor]

/-- `crc7_update` is linear in both operands together (R103 (e)). -/
theorem crc7Update_xor (c c' d d' : Byte) :
    crc7Update (c ^^^ c') (d ^^^ d') = crc7Update c d ^^^ crc7Update c' d' := by
  simp only [crc7Update_eq_shifts, ← crcShifts_xor]
  ac_rfl

/-- The trailer of two data bytes, with the CRC begun from any value: `trailer` begins from the marker's (R74, R101). -/
def trailerFrom (crc : Byte) (h l : DataBits) : DataBits :=
  (crc7Update (crc7Update crc (lowByte h)) (lowByte l) >>> 1).setWidth 7

theorem trailer_eq_trailerFrom (h l : DataBits) : trailer h l = trailerFrom markerCrc h l := rfl

theorem trailerFrom_xor (crc crc' : Byte) (h h' l l' : DataBits) :
    trailerFrom (crc ^^^ crc') (h ^^^ h') (l ^^^ l') = trailerFrom crc h l ^^^ trailerFrom crc' h' l' := by
  simp only [trailerFrom, lowByte_xor, crc7Update_xor, BitVec.ushiftRight_xor_distrib, BitVec.setWidth_xor]

/-- What flipping the bits `m` of the 21 bits `[6:0]` of a frame's last three bytes does to the comparison of CHECK:
the change of `crc3 >> 1` against the change of the trailer byte. -/
def syndrome (m : BitVec 21) : DataBits :=
  trailerFrom 0#8 (m.extractLsb' 14 7) (m.extractLsb' 7 7) ^^^ m.extractLsb' 0 7

theorem syndrome_xor (m n : BitVec 21) : syndrome (m ^^^ n) = syndrome m ^^^ syndrome n := by
  have hlinear := trailerFrom_xor 0#8 0#8 (m.extractLsb' 14 7) (n.extractLsb' 14 7) (m.extractLsb' 7 7)
    (n.extractLsb' 7 7)
  rw [BitVec.xor_self] at hlinear
  simp only [syndrome, BitVec.extractLsb'_xor, hlinear]
  ac_rfl

/-- The trailer that the flipped data bytes call for is the flipped trailer, off by the syndrome. -/
theorem trailer_flipped (h l : DataBits) (m : BitVec 21) :
    trailer (h ^^^ m.extractLsb' 14 7) (l ^^^ m.extractLsb' 7 7) =
      trailer h l ^^^ m.extractLsb' 0 7 ^^^ syndrome m := by
  have hlinear := trailerFrom_xor markerCrc 0#8 h (m.extractLsb' 14 7) l (m.extractLsb' 7 7)
  rw [BitVec.xor_zero] at hlinear
  rw [trailer_eq_trailerFrom, trailer_eq_trailerFrom, hlinear, syndrome, BitVec.xor_assoc, xor_xor_self]

theorem syndrome_bit_ne_zero {i : Nat} (hi : i < 21) : syndrome (1#21 <<< i) ≠ 0 := by
  have hall : ∀ i : Fin 21, syndrome (1#21 <<< i.val) ≠ 0 := by decide +kernel
  exact hall ⟨i, hi⟩

theorem syndrome_bit_inj {i j : Nat} (hi : i < 21) (hj : j < 21)
    (h : syndrome (1#21 <<< i) = syndrome (1#21 <<< j)) : i = j := by
  have hall : ∀ i j : Fin 21, syndrome (1#21 <<< i.val) = syndrome (1#21 <<< j.val) → i = j := by
    decide +kernel
  exact congrArg Fin.val (hall ⟨i, hi⟩ ⟨j, hj⟩ h)

/-- Two different bits do not overlap, so flipping both is one flip after the other. -/
theorem bit_or_bit_eq_xor {w i j : Nat} (hij : i ≠ j) : 1#w <<< i ||| 1#w <<< j = 1#w <<< i ^^^ 1#w <<< j := by
  ext k hk
  simp only [← BitVec.twoPow_eq, BitVec.getElem_or, BitVec.getElem_xor, BitVec.getElem_twoPow]
  by_cases hki : k = i
  · simp [hki, hij]
  · simp [hki]

theorem syndrome_one_or_two_bits_ne_zero {i j : Nat} (hi : i < 21) (hj : j < 21) :
    syndrome (1#21 <<< i ||| 1#21 <<< j) ≠ 0 := by
  by_cases hij : i = j
  · rw [hij, BitVec.or_self]
    exact syndrome_bit_ne_zero hj
  · rw [bit_or_bit_eq_xor hij, syndrome_xor]
    exact fun h0 => hij (syndrome_bit_inj hi hj (BitVec.xor_eq_zero_iff.mp h0))

/-- Settles O42: the flipped trailer is not the trailer of the flipped data bytes, so O41 applies. -/
theorem oneOrTwoFlippedBitsAreNeverAccepted : Obligations.OneOrTwoFlippedBitsAreNeverAccepted := by
  intro s h l i j hb hoff hi hj m
  refine frameWithAWrongTrailerChangesNoOutput s _ _ _ hb hoff ?_
  rw [trailer_flipped]
  exact fun h0 => syndrome_one_or_two_bits_ne_zero hi hj (xor_left_eq_self_iff.mp h0.symm)

end Sys2Proof.Machine
end
